-- ==== Sys2Proof/Word.lean ====
section
/-! DEFINITION. The word types of MNPLINK (spec/00_scope.md R11): an octet is 8 bits, bit 0 the least significant;
the CRC, TX_LEN and CFG_MAXINFO are 16 bits; the host data bus and every register word are 32 bits; a host byte
offset is 14 bits. -/

namespace Sys2Proof

/-- One octet (R11). -/
abbrev Octet := BitVec 8

/-- A 16-bit value: a CRC, a length, a counter. -/
abbrev Word16 := BitVec 16

/-- One word of the host data bus (R9: bus width 32 bits). -/
abbrev Word := BitVec 32

/-- A host byte offset (R9: address width 14 bits, 0x0000 to 0x3FFF). -/
abbrev Offset := BitVec 14

end Sys2Proof
end

