-- ==== Sys2Proof/Config.lean ====
section
/-! DEFINITION. What one instance of MNPLINK fixes (spec/00_scope.md R9), and the values the spec leaves free.
The parameters are plain data, carried unchanged in `State.params`: a statement about every state is a statement about
every parameter choice (notes/assumptions/8.md). -/

namespace Sys2Proof

/-- What the packet length field counts when MNPLINK builds a header (R9, 30_encoding.md R113). -/
inductive LenMode where
  | remainder
  | header
  deriving DecidableEq, Repr

/-- The CRC-16 variant: the default CRC-16/ARC of 40_crc16.md R141, or the five Rocksoft parameters of R149. -/
inductive CrcVariant where
  | arc
  | rocksoft (poly init : Word16) (refin refout : Bool) (xorout : Word16)
  deriving DecidableEq, Repr

/-- The parameters of R9. -/
structure Params where
  maxpkt : Nat
  txqDepth : Nat
  rxqDepth : Nat
  tAck : Word
  lenMode : LenMode
  crcVariant : CrcVariant
  deriving DecidableEq, Repr

/-- The ranges R9 gives the parameters. -/
def Params.wf (p : Params) : Bool :=
  p.maxpkt % 4 == 0 && decide (264 ≤ p.maxpkt) && decide (p.maxpkt ≤ 4096) &&
  decide (1 ≤ p.txqDepth) && decide (p.txqDepth ≤ 255) &&
  decide (1 ≤ p.rxqDepth) && decide (p.rxqDepth ≤ 255)

/-- FREE VALUE. The OPEN parameter `T_ACK` of R9 (70_reset_and_hazards.md R382: one fixed value per instance), as the
reset state takes it (notes/assumptions/7.md). -/
opaque Config.tAck : Word

/-- FREE VALUE. The octet drawn for TX_BUF octet `k` at the `n`-th reset (R382, 93_implementation_defined.md U1;
notes/assumptions/6.md). -/
opaque Config.txBufDraw (n k : Nat) : Octet

/-- The parameters with every default of R9; `T_ACK` has none and stays free. -/
def Params.default : Params :=
  { maxpkt := 1024, txqDepth := 8, rxqDepth := 4, tAck := Config.tAck, lenMode := .remainder, crcVariant := .arc }

/-- The largest MAXPKT that R9 allows. -/
def Config.maxMaxpkt : Nat := 4096

end Sys2Proof
end

