-- ==== Sys2Proof/Machine/Crc.lean ====
section
/-! DEFINITION. The CRC-16 of frames (spec/40_crc16.md R140 to R149): the default CRC-16/ARC, and the Rocksoft form for any
other variant. -/

namespace Sys2Proof.Machine

/-- Eight applications of `f`, one per bit of an octet. -/
def eightTimes {α : Type} (f : α → α) (x : α) : α := f (f (f (f (f (f (f (f x)))))))

/-! ## CRC-16/ARC (R142) -/

/-- One bit of R142. -/
def arcBit (c : Word16) : Word16 := if c.getLsbD 0 then (c >>> 1) ^^^ 0xA001#16 else c >>> 1

/-- `crc_update(c, o)` of the default variant (R142). -/
def arcUpdate (c : Word16) (o : Octet) : Word16 := eightTimes arcBit (c ^^^ o.setWidth 16)

/-! ## The Rocksoft form (R149) -/

/-- One bit of R149. -/
def rocksoftBit (poly c : Word16) : Word16 := if c.getLsbD 15 then (c <<< 1) ^^^ poly else c <<< 1

/-- An octet as the variant takes it in. -/
def rocksoftOctet (refin : Bool) (o : Octet) : Octet := if refin then o.reverse else o

/-- One octet of R149. -/
def rocksoftUpdate (poly : Word16) (refin : Bool) (c : Word16) (o : Octet) : Word16 :=
  eightTimes (rocksoftBit poly) (c ^^^ ((rocksoftOctet refin o).setWidth 16 <<< 8))

/-- The end of R149: bit-reverse if `refout`, then the final XOR. -/
def rocksoftFinish (refout : Bool) (xorout c : Word16) : Word16 := (if refout then c.reverse else c) ^^^ xorout

/-! ## The variant in use

A running CRC starts at `crcStart`, takes each octet with `crcUpdate` and is read with `crcFinish`. For CRC-16/ARC these are
0x0000, R142 and the identity; for a Rocksoft variant they are the three parts of R149 (notes/assumptions/9.md). -/

/-- The running CRC before the first octet. -/
def crcStart : CrcVariant → Word16
  | .arc => 0
  | .rocksoft _ init _ _ _ => init

/-- `crc_update` (R142, R149). -/
def crcUpdate (v : CrcVariant) (c : Word16) (o : Octet) : Word16 :=
  match v with
  | .arc => arcUpdate c o
  | .rocksoft poly _ refin _ _ => rocksoftUpdate poly refin c o

/-- The CRC value of a running CRC. -/
def crcFinish (v : CrcVariant) (c : Word16) : Word16 :=
  match v with
  | .arc => c
  | .rocksoft _ _ _ refout xorout => rocksoftFinish refout xorout c

/-- The running CRC of an octet sequence. -/
def crcRunning (v : CrcVariant) (s : List Octet) : Word16 := s.foldl (crcUpdate v) (crcStart v)

/-- `crc16(s)` (R143). -/
def crc16 (v : CrcVariant) (s : List Octet) : Word16 := crcFinish v (crcRunning v s)

end Sys2Proof.Machine
end

