-- ==== Sys2Proof/Machine/Encoder.lean ====
section
/-! DEFINITION. The wire frame (spec/30_encoding.md R100 to R107) and its encoder (spec/41_frame_encoder.md R160, R166). -/

namespace Sys2Proof.Machine

/-! ## Control octets (R101) -/

def syn : Octet := 0x16
def dle : Octet := 0x10
def stx : Octet := 0x02
def etx : Octet := 0x03

/-! ## The frame -/

/-- One payload octet on the wire: DLE is doubled, no other octet is escaped (R103). -/
def stuffOctet (o : Octet) : List Octet := if o = dle then [dle, dle] else [o]

/-- `stuff(p)` (R103). -/
def stuff : List Octet → List Octet
  | [] => []
  | o :: p => stuffOctet o ++ stuff p

/-- `fcs(p)` (40_crc16.md R145): the logical payload and the ETX of the end delimiter. -/
def fcs (v : CrcVariant) (p : List Octet) : Word16 := crc16 v (p ++ [etx])

/-- The trailer, low octet first (R105, 40_crc16.md R146). -/
def trailer (c : Word16) : List Octet := [c.extractLsb' 0 8, c.extractLsb' 8 8]

/-- `encode(p)` (R160). -/
def encodeFrame (v : CrcVariant) (p : List Octet) : List Octet :=
  [syn, dle, stx] ++ stuff p ++ [dle, etx] ++ trailer (fcs v p)

/-! ## The incremental generator (R166) -/

/-- The phases of R166; BODY and STUFF carry the payload octets still to send. -/
inductive EncPhase where
  | start0 | start1 | start2
  | body (p : List Octet)
  | stuff (p : List Octet)
  | end0 | end1 | fcs0 | fcs1
  | idle
  deriving DecidableEq, Repr

/-- The phase after the start delimiter or a payload octet. -/
def encBody : List Octet → EncPhase
  | [] => .end0
  | o :: p => .body (o :: p)

/-- One step of R166 for the payload `p`: the octet emitted, the running CRC, the next phase. -/
def encStep (v : CrcVariant) (p : List Octet) (c : Word16) : EncPhase → Option (Octet × Word16 × EncPhase)
  | .start0 => some (syn, c, .start1)
  | .start1 => some (dle, c, .start2)
  | .start2 => some (stx, crcStart v, encBody p)
  | .body [] => some (dle, c, .end1)
  | .body (o :: q) => some (o, crcUpdate v c o, if o = dle then .stuff q else encBody q)
  | .stuff q => some (dle, c, encBody q)
  | .end0 => some (dle, c, .end1)
  | .end1 => some (etx, crcUpdate v c etx, .fcs0)
  | .fcs0 => some ((crcFinish v c).extractLsb' 0 8, c, .fcs1)
  | .fcs1 => some ((crcFinish v c).extractLsb' 8 8, c, .idle)
  | .idle => none

/-- The octets at most `n` steps emit. -/
def encRun (v : CrcVariant) (p : List Octet) : Nat → Word16 → EncPhase → List Octet
  | 0, _, _ => []
  | n + 1, c, ph =>
    match encStep v p c ph with
    | some (o, c', ph') => o :: encRun v p n c' ph'
    | none => []

end Sys2Proof.Machine
end

