-- ==== Sys2Proof/Syntax.lean ====
section
/-! DEFINITION. The instructions of MNPLINK, one constructor per row of spec/opcode_table.json: nine host commands
(format CMD, a 32-bit command word, 30_encoding.md R120 to R125) and four received packets (format PKT, the logical
payload of a good frame, R108 to R112). -/

namespace Sys2Proof

/-- The length field of a packet header (30_encoding.md R108): one octet, or 0xFF and a 16-bit length. Its value is
carried and never checked (R114). -/
inductive LenField where
  | short (l : Octet)
  | extended (n : Word16)
  deriving DecidableEq, Repr

/-- One row of the opcode table each. A received packet's operands are its length field and the octets after the type
code; every LR and LD octet after the type code is opaque (R112). -/
inductive Instr where
  | nop
  | sendLr
  | sendLd
  | sendLt
  | sendLa (a b : Octet) (d : Bool)
  | closeLink
  | openLink
  | rxRelease
  | clrCounters
  | rxLr (len : LenField) (body : List Octet)
  | rxLd (len : LenField) (body : List Octet)
  | rxLt (len : LenField) (seq : Octet) (data : List Octet)
  | rxLa (len : LenField) (seq credit : Octet) (data : List Octet)
  deriving DecidableEq, Repr

/-- The encoded form of an instruction: a command word written to CMD, or the logical payload of a good frame. -/
inductive Code where
  | cmd (w : Word)
  | pkt (p : List Octet)
  deriving DecidableEq, Repr

/-- Why the decoder refuses. The first two are the command decoder's (30_encoding.md R123, R124); the others are the
payloads that 43_packet_header.md R214 and R215 classify OTHER. -/
inductive Reject where
  /-- OP is none of R122. -/
  | illegalOpcode
  /-- A bit that R124 requires to be 0 is set. -/
  | reservedBits
  /-- R214 gives no type offset: the payload ends before its type code. -/
  | noTypeCode
  /-- The type code is none of R109. -/
  | unknownType
  /-- An LT that ends before its sequence octet (R215). -/
  | ltWithoutSequence
  /-- An LA that ends before its credit octet (R215). -/
  | laWithoutCredit
  deriving DecidableEq, Repr

end Sys2Proof
end

