-- ==== Sys2Proof/Machine/State.lean ====
section
/-! DEFINITION. The state of MNPLINK (spec/10_state.md R20 to R62), the reasons a step can stop, and the state after
reset. Every register has one home here; STATUS, SEQ_STATE, ACK_STATE, ARB_STATE, QUEUE_STATE, RX_HEAD0, RX_HEAD1,
RX_BUF, `irq` and `link_closed` are views that Flags.lean and HostBus.lean compute. -/

namespace Sys2Proof.Machine

/-- The states of RXD (10_state.md R45). -/
inductive RxdState where
  | hunt0 | hunt1 | hunt2 | data | esc | fcs1 | fcs2
  deriving DecidableEq, Repr

/-- The states of TXF (R46). -/
inductive TxfState where
  | idle | busy
  deriving DecidableEq, Repr

/-- The states of ARB (R47). -/
inductive ArbState where
  | idle | hold | sending | wait
  deriving DecidableEq, Repr

/-- Why the link closed (R49); the code 0 NONE is `none` of an Option. -/
inductive CloseCause where
  | host | timeout | eos
  deriving DecidableEq, Repr

/-- The result of the last command (R50). -/
inductive CmdErr where
  | ok | illegalOpcode | reservedBits | linkClosed | badLength | queueFull | alreadyOpen | rxqEmpty
  deriving DecidableEq, Repr

/-- The interrupt bits (R27). -/
inductive IrqBit where
  | rxPacket | txSending | txSent | txAcked | eof | timeoutErr | eos | cmdErr
  deriving DecidableEq, Repr

/-- The causes of FrameError (42_frame_decoder.md R193). -/
inductive FrameErrorCause where
  | escape | crc | overflow
  deriving DecidableEq, Repr

/-- The kind of a packet to send (R34); it is never OTHER (43_packet_header.md R217). -/
inductive TxKind where
  | lr | ld | lt | la
  deriving DecidableEq, Repr

/-- The kind of a received packet (43_packet_header.md R217). -/
inductive RxKind where
  | other | lr | ld | lt | la
  deriving DecidableEq, Repr

/-- An entry of the send queue (R43). -/
structure TxEntry where
  kind : TxKind
  seq : Octet
  payload : List Octet
  deriving DecidableEq, Repr

/-- An entry of the receive queue (R44). -/
structure RxEntry where
  kind : RxKind
  seq : Octet
  credit : Octet
  payload : List Octet
  deriving DecidableEq, Repr

/-- What the environment offers RXD (R61): `rx_octet` or `rx_eos`. -/
inductive RxInput where
  | octet (o : Octet)
  | eos
  deriving DecidableEq, Repr

/-- One host bus access (20_memory.md R70). -/
inductive Access where
  | read (addr : Offset)
  | write (addr : Offset) (v : Word)
  deriving DecidableEq, Repr

/-- One item of the schedule (00_scope.md R7, R8): the turn of an agent, or a change of an input. -/
inductive Event where
  /-- HOST performs one access. -/
  | host (a : Access)
  /-- RXD's turn. -/
  | rxd
  /-- TXF's turn. -/
  | txf
  /-- ARB's turn. -/
  | arb
  /-- The environment offers a tick, which TMR takes. -/
  | tick
  /-- The environment offers the next item of the receive stream. -/
  | offer (x : RxInput)
  /-- The environment sets the level of `tx_ready`. -/
  | setTxReady (b : Bool)
  /-- The environment sets the level of `send_allowed`. -/
  | setSendAllowed (b : Bool)
  /-- The environment asserts `rst`. -/
  | rst
  deriving DecidableEq, Repr

/-- The machine. -/
structure State where
  /-- The parameters of 00_scope.md R9; no step changes them. -/
  params : Params
  /-- STATUS[0] LINK_OPEN (R23). -/
  linkOpen : Bool
  /-- STATUS[6] EOS_SEEN (R23). -/
  eosSeen : Bool
  /-- STATUS[14:12] CLOSE_CAUSE (R49). -/
  closeCause : Option CloseCause
  /-- STATUS[31:24] CMD_ERR_CODE (R50). -/
  cmdErr : CmdErr
  /-- IRQ_STATUS[7:0] (R27). -/
  irqStatus : Octet
  /-- IRQ_ENABLE[7:0] (R28). -/
  irqEnable : Octet
  /-- CFG_TIMEOUT (R24). -/
  cfgTimeout : Word
  /-- CFG_RETRY[7:0] RETRY (R25). -/
  cfgRetry : Octet
  /-- CFG_MAXINFO[15:0] MAXINFO (R26). -/
  cfgMaxinfo : Word16
  /-- TX_LEN[15:0] (R30). -/
  txLen : Word16
  /-- SEQ_STATE[7:0] TX_SEQ (R31). -/
  txSeq : Octet
  /-- SEQ_STATE[15:8] RX_LAST (R31). -/
  rxLast : Octet
  /-- ACK_STATE[7:0] LAST_ACK_SEQ (R32). -/
  lastAckSeq : Octet
  /-- ACK_STATE[15:8] LAST_CREDIT (R32). -/
  lastCredit : Octet
  /-- ACK_STATE[16] LA_SEEN (R32). -/
  laSeen : Bool
  /-- ARB_STATE[3] PENDING_VALID (R34). -/
  pendingValid : Bool
  /-- ARB_STATE[31:24] PENDING_KIND; `none` is the code 0x00 (R33). -/
  pendingKind : Option TxKind
  /-- ARB_STATE[23:16] PENDING_SEQ (R34). -/
  pendingSeq : Octet
  /-- `needs_ack` (R34). -/
  needsAck : Bool
  /-- `pend_payload` (R34). -/
  pendPayload : List Octet
  /-- ARB_STATE[15:8] ATTEMPTS (R33). -/
  attempts : Octet
  /-- ARB_STATE[2] ACK_MATCH (R48). -/
  ackMatch : Bool
  /-- TIMER (R35). -/
  timer : Word
  /-- CNT_FRAME_ERR[15:0] (R39). -/
  cntFrameErr : Word16
  /-- CNT_SEQ_DROP[15:0] (R39). -/
  cntSeqDrop : Word16
  /-- CNT_RX_OVERFLOW[15:0] (R39). -/
  cntRxOverflow : Word16
  /-- TX_BUF (R41): the octets the host has written since reset, by index, indices strictly rising. -/
  txBuf : List Host.Cell
  /-- TXQ, the head first (R43). -/
  txq : List TxEntry
  /-- RXQ, the head first (R44). -/
  rxq : List RxEntry
  /-- `st_RXD` (R45). -/
  stRxd : RxdState
  /-- `rx_acc` (R45). -/
  rxAcc : List Octet
  /-- `rx_crc` (R45). -/
  rxCrc : Word16
  /-- `fcs_lo` (R45). -/
  fcsLo : Octet
  /-- `st_TXF` (R46). -/
  stTxf : TxfState
  /-- `tx_wire` (R46). -/
  txWire : List Octet
  /-- `tx_idx` (R46). -/
  txIdx : Nat
  /-- `st_ARB` (R47). -/
  stArb : ArbState
  /-- The level of the input `send_allowed` (R61). -/
  sendAllowed : Bool
  /-- The level of the input `tx_ready` (R61). -/
  txReady : Bool
  /-- The output `rdata` (R61): the word the last host read returned. -/
  rdata : Word
  /-- The MODEL's own: the receive stream offered and not yet taken, first item first (20_memory.md R71). -/
  rxIn : List RxInput
  /-- The MODEL's own: the transmit stream emitted so far, first octet first (20_memory.md R71). -/
  txOut : List Octet
  /-- The MODEL's own: what happens next (00_scope.md R7); the head is taken by the next step. -/
  schedule : List Event
  /-- The MODEL's own: how many resets have drawn TX_BUF afresh (70_reset_and_hazards.md R382). -/
  draws : Nat
  deriving DecidableEq, Repr

/-- The reasons a step stops with a fault. -/
inductive Fault where
  /-- Raised by TXF's turn (Machine/Txf.lean) when it is BUSY and `tx_idx` lies outside `tx_wire`: `tx_wire[tx_idx]` of
  41_frame_encoder.md R162 then names no octet. Safe: no reachable state has it (notes/assumptions/13.md). -/
  | txIndexOutOfRange
  deriving DecidableEq, Repr

/-- The reasons a step has no meaning. -/
inductive Refusal where
  /-- Raised by `exec` for an instruction not modelled yet; no arm of this model uses it. Safe. -/
  | notModelled (mnemonic : String)
  deriving DecidableEq, Repr

/-- Every element at its reset value (10_state.md R62) for the parameters `p`. The input levels, `rdata`, the streams and
the schedule are not registers of R62: notes/assumptions/1.md to 5.md name their values. TX_BUF lists nothing, so each
octet reads as its drawn value (notes/assumptions/6.md). -/
def State.resetWith (p : Params) : State :=
  { params := p, linkOpen := false, eosSeen := false, closeCause := none, cmdErr := .ok,
    irqStatus := 0, irqEnable := 0, cfgTimeout := p.tAck, cfgRetry := 5, cfgMaxinfo := 256, txLen := 0,
    txSeq := 0, rxLast := 0, lastAckSeq := 0, lastCredit := 0, laSeen := false,
    pendingValid := false, pendingKind := none, pendingSeq := 0, needsAck := false, pendPayload := [],
    attempts := 0, ackMatch := false, timer := 0, cntFrameErr := 0, cntSeqDrop := 0, cntRxOverflow := 0,
    txBuf := [], txq := [], rxq := [], stRxd := .hunt0, rxAcc := [], rxCrc := 0, fcsLo := 0,
    stTxf := .idle, txWire := [], txIdx := 0, stArb := .idle,
    sendAllowed := true, txReady := true, rdata := 0, rxIn := [], txOut := [], schedule := [], draws := 0 }

/-- The machine right after reset, with the default parameters of 00_scope.md R9. -/
def State.reset : State := State.resetWith Params.default

end Sys2Proof.Machine
end

