-- ==== Sys2Proof/Machine/Flags.lean ====
section
/-! DEFINITION. Codes, interrupt bits and status flags (spec/10_state.md R23 to R39, R45 to R51). MNPLINK has no condition
codes (R51): its flags are the STATUS bits, the IRQ_STATUS bits and ACK_MATCH. -/

namespace Sys2Proof.Machine

/-! ## Codes -/

/-- STATUS.RXD_STATE (R45). -/
def RxdState.code : RxdState → BitVec 3
  | .hunt0 => 0 | .hunt1 => 1 | .hunt2 => 2 | .data => 3 | .esc => 4 | .fcs1 => 5 | .fcs2 => 6

/-- ARB_STATE.ARB (R47). -/
def ArbState.code : ArbState → BitVec 2
  | .idle => 0 | .hold => 1 | .sending => 2 | .wait => 3

/-- CLOSE_CAUSE (R49). -/
def closeCauseCode : Option CloseCause → BitVec 3
  | none => 0 | some .host => 1 | some .timeout => 2 | some .eos => 3

/-- CMD_ERR_CODE (R50). -/
def CmdErr.code : CmdErr → Octet
  | .ok => 0x00 | .illegalOpcode => 0x01 | .reservedBits => 0x02 | .linkClosed => 0x03 | .badLength => 0x04
  | .queueFull => 0x05 | .alreadyOpen => 0x06 | .rxqEmpty => 0x07

/-- The type code of a packet to send (43_packet_header.md R217). -/
def TxKind.code : TxKind → Octet
  | .lr => 0x01 | .ld => 0x02 | .lt => 0x04 | .la => 0x05

/-- PENDING_KIND: 0x00 when nothing is pending (R33). -/
def pendingKindCode : Option TxKind → Octet
  | none => 0x00 | some k => k.code

/-- RX_KIND (R37, 43_packet_header.md R217). -/
def RxKind.code : RxKind → Octet
  | .other => 0x00 | .lr => 0x01 | .ld => 0x02 | .lt => 0x04 | .la => 0x05

/-- LR and LT require acknowledgement, LD and LA do not (R34). -/
def TxKind.needsAck : TxKind → Bool
  | .lr => true | .lt => true | .ld => false | .la => false

/-! ## Interrupt bits (R27 to R29) -/

/-- The bit position of R27. -/
def IrqBit.index : IrqBit → Nat
  | .rxPacket => 0 | .txSending => 1 | .txSent => 2 | .txAcked => 3 | .eof => 4 | .timeoutErr => 5 | .eos => 6
  | .cmdErr => 7

/-- The mask of one interrupt bit. -/
def IrqBit.mask (b : IrqBit) : Octet := 1#8 <<< b.index

/-- `irq_set(BIT)`: a sticky bit, set and never counted (R27). -/
def irqSet (b : IrqBit) (s : State) : State := { s with irqStatus := s.irqStatus ||| b.mask }

/-- A host write to IRQ_STATUS clears the bits written 1 (R27, 46_host_commands.md R322). -/
def irqClear (v : Octet) (s : State) : State := { s with irqStatus := s.irqStatus &&& ~~~v }

/-- The `irq` output (R29). -/
def irqLevel (s : State) : Bool := (s.irqStatus &&& s.irqEnable) != 0#8

/-! ## Status flags (R23) -/

/-- STATUS[1] TX_IDLE. -/
def txIdle (s : State) : Bool := s.txq.length == 0 && s.stArb == .idle

/-- STATUS[2] TXQ_FULL, and `full(TXQ)`. -/
def txqFull (s : State) : Bool := s.txq.length == s.params.txqDepth

/-- STATUS[3] RXQ_NONEMPTY. -/
def rxqNonempty (s : State) : Bool := decide (0 < s.rxq.length)

/-- STATUS[4] RXQ_FULL, and `full(RXQ)`. -/
def rxqFull (s : State) : Bool := s.rxq.length == s.params.rxqDepth

/-- STATUS[7] TXF_BUSY. -/
def txfBusy (s : State) : Bool := s.stTxf == .busy

/-- The `link_closed` output (R61). -/
def linkClosed (s : State) : Bool := !s.linkOpen

/-- The `tx_valid` and `tx_octet` outputs (R61): the octet TXF is sending. -/
def txOctet (s : State) : Option Octet := if txfBusy s then s.txWire[s.txIdx]? else none

/-- STATUS (R23). -/
def statusWord (s : State) : Word :=
  s.cmdErr.code ++ (0#9 : BitVec 9) ++ closeCauseCode s.closeCause ++ (0#1 : BitVec 1) ++ s.stRxd.code ++
  BitVec.ofBool (txfBusy s) ++ BitVec.ofBool s.eosSeen ++ BitVec.ofBool s.sendAllowed ++ BitVec.ofBool (rxqFull s) ++
  BitVec.ofBool (rxqNonempty s) ++ BitVec.ofBool (txqFull s) ++ BitVec.ofBool (txIdle s) ++ BitVec.ofBool s.linkOpen

/-- SEQ_STATE (R31). -/
def seqStateWord (s : State) : Word := (0#16 : BitVec 16) ++ s.rxLast ++ s.txSeq

/-- ACK_STATE (R32). -/
def ackStateWord (s : State) : Word :=
  (0#15 : BitVec 15) ++ BitVec.ofBool s.laSeen ++ s.lastCredit ++ s.lastAckSeq

/-- ARB_STATE (R33). -/
def arbStateWord (s : State) : Word :=
  pendingKindCode s.pendingKind ++ s.pendingSeq ++ s.attempts ++ (0#4 : BitVec 4) ++
  BitVec.ofBool s.pendingValid ++ BitVec.ofBool s.ackMatch ++ s.stArb.code

/-- QUEUE_STATE (R36). -/
def queueStateWord (s : State) : Word :=
  (0#16 : BitVec 16) ++ BitVec.ofNat 8 s.rxq.length ++ BitVec.ofNat 8 s.txq.length

/-- RX_HEAD0 (R37). -/
def rxHead0Word (s : State) : Word :=
  match s.rxq with
  | [] => 0
  | e :: _ => (1#1 : BitVec 1) ++ (0#7 : BitVec 7) ++ e.kind.code ++ BitVec.ofNat 16 e.payload.length

/-- RX_HEAD1 (R38). -/
def rxHead1Word (s : State) : Word :=
  match s.rxq with
  | [] => 0
  | e :: _ => (0#16 : BitVec 16) ++ e.credit ++ e.seq

end Sys2Proof.Machine
end

