-- ==== Sys2Proof/Machine/Ops.lean ====
section
/-! DEFINITION. The shared operations: TX_BUF storage, counters, queues, the sequencer, the agents' idle states, and
raising an error. MNPLINK has no trap entry with a saved pc (60_exceptions.md R360): an error's entry is the handling its
rule gives, performed in the same step (`frameError`, `closeLinkWith`, `finishCommand`), and there is no return (R361). -/

namespace Sys2Proof.Machine

/-! ## TX_BUF storage (10_state.md R41) -/

/-- The octet last written at index `a`, `none` if nothing has written it since reset. -/
def Memory.read : List Host.Cell → Nat → Option Octet
  | [], _ => none
  | c :: m, a => if c.1 = a then some c.2 else Memory.read m a

/-- Store `v` at index `a`, keeping the indices strictly rising. -/
def Memory.write : List Host.Cell → Nat → Octet → List Host.Cell
  | [], a, v => [(a, v)]
  | c :: m, a, v =>
    if a < c.1 then (a, v) :: c :: m
    else if a = c.1 then (a, v) :: m
    else c :: Memory.write m a v

/-- The canonical form: indices strictly rising. An unlisted index reads as `none`, which no entry equals. -/
def Memory.wf : List Host.Cell → Bool
  | [] => true
  | [_] => true
  | c :: d :: m => decide (c.1 < d.1) && Memory.wf (d :: m)

/-- TX_BUF octet `k`: the octet written, else the value drawn at the last reset (70_reset_and_hazards.md R382). -/
def txBufOctet (s : State) (k : Nat) : Octet :=
  match Memory.read s.txBuf k with
  | some v => v
  | none => Config.txBufDraw s.draws k

/-- Store TX_BUF octet `k`; octets at or beyond MAXPKT are not stored (20_memory.md R74). -/
def storeTxOctet (k : Nat) (v : Octet) (s : State) : State :=
  if k < s.params.maxpkt then { s with txBuf := Memory.write s.txBuf k v } else s

/-! ## Counters and sequence numbers (00_scope.md R12) -/

/-- `seq_next`. -/
def seqNext (q : Octet) : Octet := q + 1

/-- `sat16_inc`. -/
def sat16Inc (c : Word16) : Word16 := if c = 0xFFFF#16 then c else c + 1

/-- `seq_assign` (44_sequencer.md R241). -/
def seqAssign (s : State) : State := { s with txSeq := seqNext s.txSeq }

/-- `seq_reset_tx` (R242). -/
def seqResetTx (s : State) : State := { s with txSeq := 0 }

/-- `seq_reset_rx` (R247). -/
def seqResetRx (s : State) : State := { s with rxLast := 0 }

/-- `seq_drop` (R246). -/
def seqDrop (s : State) : State := { s with cntSeqDrop := sat16Inc s.cntSeqDrop }

/-! ## Queues -/

/-- `enqueue(TXQ, e)`. -/
def enqueueTx (e : TxEntry) (s : State) : State := { s with txq := s.txq ++ [e] }

/-- `deliver` (43_packet_header.md R222). -/
def deliver (k : RxKind) (q c : Octet) (p : List Octet) (s : State) : State :=
  irqSet .rxPacket { s with rxq := s.rxq ++ [{ kind := k, seq := q, credit := c, payload := p }] }

/-- `rx_overflow` (R223). -/
def rxOverflow (s : State) : State := { s with cntRxOverflow := sat16Inc s.cntRxOverflow }

/-- A good packet needs room in RXQ for everything but an LA's acknowledgement (R220, R221). -/
def withRxRoom (s t : State) : State := if rxqFull s then rxOverflow s else t

/-! ## Acknowledgement (44_sequencer.md R250, R251) -/

/-- The condition of R251: the LA acknowledges the pending packet. -/
def laMatches (q : Octet) (s : State) : Bool :=
  s.pendingValid && s.needsAck && decide (1 ≤ s.attempts.toNat) &&
  ((s.pendingKind == some .lr && q == 0#8) || (s.pendingKind == some .lt && q == s.pendingSeq))

/-- `la_receive`: the record of R250 and the match of R251. -/
def laReceive (q c : Octet) (s : State) : State :=
  { s with lastAckSeq := q, lastCredit := c, laSeen := true, ackMatch := s.ackMatch || laMatches q s }

/-! ## Idle agents -/

/-- Drop the pending record at a completion or a close (10_state.md R34); `needs_ack` keeps its last value, which nothing
reads while nothing is pending (notes/assumptions/15.md). -/
def clearPending (s : State) : State :=
  { s with pendingValid := false, pendingKind := none, pendingSeq := 0, attempts := 0, pendPayload := [] }

/-- RXD back to HUNT0 with its accumulators empty. -/
def rxdIdle (s : State) : State := { s with rxAcc := [], rxCrc := 0, fcsLo := 0, stRxd := .hunt0 }

/-- `txf_abort` (41_frame_encoder.md R165): TXF to IDLE; the octets not yet emitted never are. -/
def txfAbort (s : State) : State := { s with stTxf := .idle, txWire := [], txIdx := 0 }

/-- ARB to IDLE with nothing pending, no acknowledgement and no timer. -/
def arbIdle (s : State) : State := { clearPending s with ackMatch := false, timer := 0, stArb := .idle }

/-! ## Raising an error (60_exceptions.md R350 to R360) -/

/-- FrameError (42_frame_decoder.md R195): dropped and counted; the cause is not shown to the host (R193). -/
def frameError (_cause : FrameErrorCause) (s : State) : State :=
  { rxdIdle s with cntFrameErr := sat16Inc s.cntFrameErr }

/-- The interrupt bits a close sets (45_retransmission.md R285). -/
def closeIrqs (c : CloseCause) (s : State) : State :=
  match c with
  | .host => irqSet .eof s
  | .timeout => irqSet .timeoutErr (irqSet .eof s)
  | .eos => irqSet .eos (irqSet .eof s)

/-- The close sequence of an open link (R285). -/
def closeOpenLink (c : CloseCause) (s : State) : State :=
  closeIrqs c { rxdIdle (txfAbort (arbIdle { s with txq := [] })) with linkOpen := false, closeCause := some c }

/-- `close(cause)`: a no-op while the link is closed (R285, R286). -/
def closeLinkWith (c : CloseCause) (s : State) : State := if s.linkOpen then closeOpenLink c s else s

/-- The end of every CMD write (46_host_commands.md R311): the code, and CMD_ERR if it is not 0. -/
def finishCommand (e : CmdErr) (s : State) : State :=
  match e with
  | .ok => { s with cmdErr := .ok }
  | e => irqSet .cmdErr { s with cmdErr := e }

/-! ## Reset (70_reset_and_hazards.md R380) -/

/-- `rst`: every element of 10_state.md R62 to its reset value, TX_BUF drawn afresh; the inputs, the streams, `rdata` and
the schedule are the environment's and stay (notes/assumptions/12.md). -/
def applyReset (s : State) : State :=
  { State.resetWith s.params with
    sendAllowed := s.sendAllowed, txReady := s.txReady, rdata := s.rdata, rxIn := s.rxIn, txOut := s.txOut,
    schedule := s.schedule, draws := s.draws + 1 }

/-! ## Outcomes -/

/-- Continue after a meaning that answers a next state. -/
def thenNext (f : State → State) (r : Host.Outcome State Fault Refusal) : Host.Outcome State Fault Refusal :=
  match r with
  | .next s => .next (f s)
  | .fault e => .fault e
  | .refused e => .refused e

end Sys2Proof.Machine
end

