-- ==== Sys2Proof/Machine/Txf.lean ====
section
/-! DEFINITION. The transmit framer TXF (spec/41_frame_encoder.md R161 to R165). -/

namespace Sys2Proof.Machine

/-- `txf_start(p)` (R161). -/
def txfStart (p : List Octet) (s : State) : State :=
  { s with txWire := encodeFrame s.params.crcVariant p, txIdx := 0, stTxf := .busy }

/-- `emit(o)`, and the move to the next octet (R162). -/
def txfEmit (o : Octet) (s : State) : State :=
  if s.txIdx + 1 = s.txWire.length then txfAbort { s with txOut := s.txOut ++ [o] }
  else { s with txOut := s.txOut ++ [o], txIdx := s.txIdx + 1 }

/-- TXF's turn: one octet if BUSY and `tx_ready` (R162), else no step (R163). -/
def txfStep (s : State) : Host.Outcome State Fault Refusal :=
  if txfBusy s && s.txReady then
    match s.txWire[s.txIdx]? with
    | some o => .next (txfEmit o s)
    | none => .fault .txIndexOutOfRange
  else .next s

end Sys2Proof.Machine
end

