-- ==== Sys2Proof/Machine/Arb.lean ====
section
/-! DEFINITION. The retransmission arbiter ARB and the timer TMR (spec/45_retransmission.md R270 to R284). -/

namespace Sys2Proof.Machine

/-- IDLE, pop (R271). -/
def arbPop (e : TxEntry) (rest : List TxEntry) (s : State) : State :=
  { s with
    txq := rest, pendingValid := true, pendingKind := some e.kind, pendingSeq := e.seq, pendPayload := e.payload,
    needsAck := e.kind.needsAck, attempts := 0, ackMatch := false, stArb := .hold }

/-- HOLD, attempt start (R273). -/
def attemptStart (s : State) : State :=
  irqSet .txSending { txfStart s.pendPayload { s with attempts := s.attempts + 1 } with stArb := .sending }

/-- `complete_sent()` (R277). -/
def completeSent (s : State) : State := { clearPending s with stArb := .idle }

/-- `complete_acked()` (R278). -/
def completeAcked (s : State) : State := irqSet .txAcked (arbIdle s)

/-- Entering WAIT loads the timer (R274, R280). -/
def enterWait (s : State) : State := { s with timer := s.cfgTimeout, stArb := .wait }

/-- SENDING, frame emitted (R274). -/
def frameSent (s : State) : State :=
  let t := irqSet .txSent s
  if !t.needsAck then completeSent t else if t.ackMatch then completeAcked t else enterWait t

/-- `failed_attempt()` (R284): TimeoutError when the budget is spent (60_exceptions.md R353). -/
def failedAttempt (s : State) : State :=
  if s.cfgRetry.toNat ≤ s.attempts.toNat then closeLinkWith .timeout s else { s with timer := 0, stArb := .hold }

/-- ARB's transition in HOLD (R272, R273, R275). -/
def arbHold (s : State) : State :=
  if s.ackMatch then completeAcked s
  else if s.sendAllowed && !txfBusy s then attemptStart s
  else s

/-- ARB's transition in WAIT, in the order of R287 (R279, R282, R283). -/
def arbWait (s : State) : State :=
  if s.ackMatch then completeAcked s
  else if !s.sendAllowed then failedAttempt s
  else if s.timer = 0 then failedAttempt s
  else s

/-- ARB's turn on an open link. -/
def arbOpen (s : State) : State :=
  match s.stArb with
  | .idle =>
    match s.txq with
    | [] => s
    | e :: rest => arbPop e rest s
  | .hold => arbHold s
  | .sending => if txfBusy s then s else frameSent s
  | .wait => arbWait s

/-- ARB's turn: no step while the link is closed (R270). -/
def arbStep (s : State) : State := if s.linkOpen then arbOpen s else s

/-- TMR takes one tick (R281). -/
def tmrTick (s : State) : State :=
  if s.stArb = .wait ∧ 0 < s.timer.toNat then { s with timer := s.timer - 1 } else s

end Sys2Proof.Machine
end

