-- ==== Sys2Proof/Decode.lean ====
section
/-! DEFINITION. The decoder, total on every command word and every payload, and the encoder, both from
spec/30_encoding.md (R108 to R114, R120 to R125) and spec/43_packet_header.md (R214, R215). -/

namespace Sys2Proof

/-! ## Command words (R120 to R125) -/

/-- OP, bits [7:0] (R120). -/
def opField (w : Word) : Octet := w.extractLsb' 0 8

/-- Operand A, bits [15:8]. -/
def aField (w : Word) : Octet := w.extractLsb' 8 8

/-- Operand B, bits [23:16]. -/
def bField (w : Word) : Octet := w.extractLsb' 16 8

/-- Operand D, bit [24]. -/
def dField (w : Word) : Bool := w.getLsbD 24

/-- A legal OP other than SEND_LA: bits [31:8] must be 0 (R124). -/
def decodePlain (w : Word) (i : Instr) : Except Reject Instr :=
  if w.extractLsb' 8 24 = 0#24 then .ok i else .error .reservedBits

/-- SEND_LA: bits [31:25] must be 0 (R124). -/
def decodeSendLa (w : Word) : Except Reject Instr :=
  if w.extractLsb' 25 7 = 0#7 then .ok (.sendLa (aField w) (bField w) (dField w)) else .error .reservedBits

/-- The command decoder: the opcode is checked before the reserved bits (R125). -/
def decodeCmd (w : Word) : Except Reject Instr :=
  match (opField w).toNat with
  | 0x00 => decodePlain w .nop
  | 0x01 => decodePlain w .sendLr
  | 0x02 => decodePlain w .sendLd
  | 0x04 => decodePlain w .sendLt
  | 0x05 => decodeSendLa w
  | 0x08 => decodePlain w .closeLink
  | 0x09 => decodePlain w .openLink
  | 0x0A => decodePlain w .rxRelease
  | 0x0B => decodePlain w .clrCounters
  | _ => .error .illegalOpcode

/-! ## Received payloads (R108 to R112, R214, R215) -/

/-- The octets after the length field, by type code (R109 to R112, R215). -/
def decodeBody (len : LenField) (ty : Octet) (body : List Octet) : Except Reject Instr :=
  match ty.toNat with
  | 0x01 => .ok (.rxLr len body)
  | 0x02 => .ok (.rxLd len body)
  | 0x04 =>
    match body with
    | seq :: data => .ok (.rxLt len seq data)
    | [] => .error .ltWithoutSequence
  | 0x05 =>
    match body with
    | seq :: credit :: data => .ok (.rxLa len seq credit data)
    | _ => .error .laWithoutCredit
  | _ => .error .unknownType

/-- The type code and what follows it, after a length field. -/
def decodeAfterLen (len : LenField) : List Octet → Except Reject Instr
  | ty :: body => decodeBody len ty body
  | [] => .error .noTypeCode

/-- A payload: the length field is 0xFF and two octets, high octet first, or one octet (R108). -/
def decodePacket : List Octet → Except Reject Instr
  | [] => .error .noTypeCode
  | l :: rest =>
    if l = 0xFF#8 then
      match rest with
      | h :: lo :: rest' => decodeAfterLen (.extended (h ++ lo)) rest'
      | _ => .error .noTypeCode
    else decodeAfterLen (.short l) rest

/-- The decoder. -/
def decode : Code → Except Reject Instr
  | .cmd w => decodeCmd w
  | .pkt p => decodePacket p

/-! ## The encoder -/

/-- The octets of a length field (R108): high octet first in the extended form. -/
def LenField.octets : LenField → List Octet
  | .short l => [l]
  | .extended n => [0xFF#8, n.extractLsb' 8 8, n.extractLsb' 0 8]

/-- A payload: length field, type code, the rest (R108). -/
def packetOctets (len : LenField) (ty : Octet) (body : List Octet) : List Octet :=
  len.octets ++ ty :: body

/-- A command word with only OP set. -/
def plainWord (op : Octet) : Word := (0#24 : BitVec 24) ++ op

/-- The SEND_LA word of R120. -/
def sendLaWord (a b : Octet) (d : Bool) : Word := (0#7 : BitVec 7) ++ BitVec.ofBool d ++ b ++ a ++ (0x05#8 : Octet)

/-- The encoded form of an instruction. -/
def encode : Instr → Code
  | .nop => .cmd (plainWord 0x00)
  | .sendLr => .cmd (plainWord 0x01)
  | .sendLd => .cmd (plainWord 0x02)
  | .sendLt => .cmd (plainWord 0x04)
  | .sendLa a b d => .cmd (sendLaWord a b d)
  | .closeLink => .cmd (plainWord 0x08)
  | .openLink => .cmd (plainWord 0x09)
  | .rxRelease => .cmd (plainWord 0x0A)
  | .clrCounters => .cmd (plainWord 0x0B)
  | .rxLr len body => .pkt (packetOctets len 0x01 body)
  | .rxLd len body => .pkt (packetOctets len 0x02 body)
  | .rxLt len seq data => .pkt (packetOctets len 0x04 (seq :: data))
  | .rxLa len seq credit data => .pkt (packetOctets len 0x05 (seq :: credit :: data))

/-! ## One table row's bits -/

/-- A payload whose type code is the low octet of `w`, with a short length field counting the three octets after it and
operand octets of zero (notes/assumptions/11.md). -/
def tablePayload (w : Nat) : List Octet := [0x03, BitVec.ofNat 8 w, 0x00, 0x00]

/-- The code whose opcode-table bits are `w`: a row of 8 bits is a type code (format PKT), every other a command word
(format CMD). -/
def tableCode (nbits w : Nat) : Code :=
  if nbits = 8 then .pkt (tablePayload w) else .cmd (BitVec.ofNat 32 w)

/-- The instruction the decoder reads from a row's bits. -/
def decodeTableWord (nbits w : Nat) : Option Instr :=
  match decode (tableCode nbits w) with
  | .ok i => some i
  | .error _ => none

end Sys2Proof
end

