-- ==== Sys2Proof/Machine/Operands.lean ====
section
/-! DEFINITION. The operands of commands and the checks on them (spec/46_host_commands.md R310 to R320), and the payloads
MNPLINK builds (spec/43_packet_header.md R210 to R213). -/

namespace Sys2Proof.Machine

/-! ## Command operands -/

/-- `TX_BUF[0..n)`. -/
def txOctets (s : State) (n : Nat) : List Octet := (List.range n).map (txBufOctet s)

/-- `TX_BUF[0..TX_LEN)`, the data of a SEND command at the time of the command (10_state.md R41). -/
def txData (s : State) : List Octet := txOctets s s.txLen.toNat

/-- SEND_LA's data: `TX_BUF[0..TX_LEN)` if D = 1, else none (R316). -/
def laData (d : Bool) (s : State) : List Octet := if d then txData s else []

/-! ## Checks, in the order a rule lists them (R310) -/

/-- The code of the first check that fails, OK if none does. -/
def firstError : List (Bool × CmdErr) → CmdErr
  | [] => .ok
  | (good, e) :: rest => if good then firstError rest else e

/-- `1 <= TX_LEN <= n`. -/
def lengthIn (n : Nat) (s : State) : Bool := decide (1 ≤ s.txLen.toNat) && decide (s.txLen.toNat ≤ n)

/-- The checks of SEND_LR and SEND_LD (R313, R314). -/
def checkSendWhole (s : State) : CmdErr :=
  firstError [(s.linkOpen, .linkClosed), (lengthIn s.params.maxpkt s, .badLength), (!txqFull s, .queueFull)]

/-- The checks of SEND_LT (R315). -/
def checkSendLt (s : State) : CmdErr :=
  firstError [(s.linkOpen, .linkClosed), (lengthIn s.cfgMaxinfo.toNat s, .badLength), (!txqFull s, .queueFull)]

/-- The checks of SEND_LA (R316): with D = 1 the data must leave room for the longest LA header. -/
def checkSendLa (d : Bool) (s : State) : CmdErr :=
  firstError [(s.linkOpen, .linkClosed), (!d || decide (s.txLen.toNat ≤ s.params.maxpkt - 7), .badLength),
    (!txqFull s, .queueFull)]

/-- The check of OPEN (R318). -/
def checkOpen (s : State) : CmdErr := firstError [(!s.linkOpen, .alreadyOpen)]

/-- The check of RX_RELEASE (R319). -/
def checkRelease (s : State) : CmdErr := firstError [(rxqNonempty s, .rxqEmpty)]

/-- A command with its checks done: the effect if every check passed, and the result (R310, R311). -/
def runCommand (check : CmdErr) (effect : State) (s : State) : State :=
  match check with
  | .ok => finishCommand .ok effect
  | e => finishCommand e s

/-! ## Building headers (43_packet_header.md R211, R212; 30_encoding.md R113) -/

/-- The length field of a payload with `header` octets and `total` octets after the length field. -/
def builtLen (mode : LenMode) (header total : Nat) : LenField :=
  match mode with
  | .header => .short (BitVec.ofNat 8 header)
  | .remainder => if total ≤ 254 then .short (BitVec.ofNat 8 total) else .extended (BitVec.ofNat 16 total)

/-- `build_lt(s, d)` (R211). -/
def buildLt (mode : LenMode) (q : Octet) (d : List Octet) : List Octet :=
  packetOctets (builtLen mode 2 (2 + d.length)) 0x04 (q :: d)

/-- `build_la(s, c, d)` (R212). -/
def buildLa (mode : LenMode) (q c : Octet) (d : List Octet) : List Octet :=
  packetOctets (builtLen mode 3 (3 + d.length)) 0x05 (q :: c :: d)

end Sys2Proof.Machine
end

