-- ==== Sys2Proof/Machine/Commands.lean ====
section
/-! DEFINITION. The meanings of the nine host commands (spec/46_host_commands.md R312 to R320). The opcode and the reserved
bits are checked by the decoder (R310); each meaning makes the command's own checks. -/

namespace Sys2Proof.Machine

/-- NOP (R312). -/
def execNop (s : State) : Host.Outcome State Fault Refusal := .next (finishCommand .ok s)

/-- SEND_LR (R313): TX_SEQ is reset, the staged octets are queued unchanged. -/
def execSendLr (s : State) : Host.Outcome State Fault Refusal :=
  .next (runCommand (checkSendWhole s)
    (enqueueTx { kind := .lr, seq := 0, payload := txData s } (seqResetTx s)) s)

/-- SEND_LD (R314). -/
def execSendLd (s : State) : Host.Outcome State Fault Refusal :=
  .next (runCommand (checkSendWhole s) (enqueueTx { kind := .ld, seq := 0, payload := txData s } s) s)

/-- The effect of SEND_LT (R315) once the sequence is assigned. -/
def queueLt (d : List Octet) (s : State) : State :=
  enqueueTx { kind := .lt, seq := s.txSeq, payload := buildLt s.params.lenMode s.txSeq d } s

/-- SEND_LT (R315): the next sequence is assigned before the packet is built. -/
def execSendLt (s : State) : Host.Outcome State Fault Refusal :=
  .next (runCommand (checkSendLt s) (queueLt (txData s) (seqAssign s)) s)

/-- SEND_LA (R316). -/
def execSendLa (a b : Octet) (d : Bool) (s : State) : Host.Outcome State Fault Refusal :=
  .next (runCommand (checkSendLa d s)
    (enqueueTx { kind := .la, seq := 0, payload := buildLa s.params.lenMode a b (laData d s) } s) s)

/-- CLOSE (R317): legal with the link closed, where it does nothing. -/
def execCloseLink (s : State) : Host.Outcome State Fault Refusal := .next (finishCommand .ok (closeLinkWith .host s))

/-- The effect of OPEN (R318): all link-session state is new, `needs_ack` with the rest of the pending record
(70_reset_and_hazards.md R383, 10_state.md R34); configuration, interrupt registers, TX staging and counters stay. -/
def openSession (s : State) : State :=
  { rxdIdle (txfAbort (arbIdle (seqResetRx (seqResetTx s)))) with
    needsAck := false, lastAckSeq := 0, lastCredit := 0, laSeen := false, txq := [], rxq := [],
    eosSeen := false, closeCause := none, linkOpen := true }

/-- OPEN (R318). -/
def execOpenLink (s : State) : Host.Outcome State Fault Refusal :=
  .next (runCommand (checkOpen s) (openSession s) s)

/-- RX_RELEASE (R319). -/
def execRxRelease (s : State) : Host.Outcome State Fault Refusal :=
  .next (runCommand (checkRelease s) { s with rxq := s.rxq.tail } s)

/-- CLR_COUNTERS (R320). -/
def execClrCounters (s : State) : Host.Outcome State Fault Refusal :=
  .next (finishCommand .ok { s with cntFrameErr := 0, cntSeqDrop := 0, cntRxOverflow := 0 })

end Sys2Proof.Machine
end

