-- ==== Sys2Proof/Machine/Packets.lean ====
section
/-! DEFINITION. The meanings of the four received packets: the packet-level action of a good frame
(spec/43_packet_header.md R220 to R226, spec/44_sequencer.md R245 to R252). Every one delivers the complete payload, header
included (10_state.md R42). -/

namespace Sys2Proof.Machine

/-- RX_LR (R220, 44_sequencer.md R247): RX_LAST is reset when the LR is delivered. -/
def execRxLr (len : LenField) (body : List Octet) (s : State) : Host.Outcome State Fault Refusal :=
  .next (withRxRoom s (deliver .lr 0 0 (packetOctets len 0x01 body) (seqResetRx s)))

/-- RX_LD (R224): delivered; the link stays open. -/
def execRxLd (len : LenField) (body : List Octet) (s : State) : Host.Outcome State Fault Refusal :=
  .next (withRxRoom s (deliver .ld 0 0 (packetOctets len 0x02 body) s))

/-- The sequence filter (44_sequencer.md R245, R246). -/
def seqFilter (q : Octet) (p : List Octet) (s : State) : State :=
  if q = seqNext s.rxLast then deliver .lt q 0 p { s with rxLast := q } else seqDrop s

/-- RX_LT (R220): the filter is applied only when RXQ has room. -/
def execRxLt (len : LenField) (q : Octet) (data : List Octet) (s : State) : Host.Outcome State Fault Refusal :=
  .next (withRxRoom s (seqFilter q (packetOctets len 0x04 (q :: data)) s))

/-- An acknowledgement that has been applied, then delivered if RXQ has room (R221). -/
def deliverLa (q c : Octet) (p : List Octet) (s : State) : State := withRxRoom s (deliver .la q c p s)

/-- RX_LA (R220, R221): the acknowledgement is applied whether or not RXQ has room. -/
def execRxLa (len : LenField) (q c : Octet) (data : List Octet) (s : State) : Host.Outcome State Fault Refusal :=
  .next (deliverLa q c (packetOctets len 0x05 (q :: c :: data)) (laReceive q c s))

/-- A payload classified OTHER (R226), which is no row of the opcode table. -/
def deliverOther (p : List Octet) (s : State) : State := withRxRoom s (deliver .other 0 0 p s)

end Sys2Proof.Machine
end

