-- ==== Sys2Proof/Machine/Dispatch.lean ====
section
/-! DEFINITION. The meaning of each instruction. -/

namespace Sys2Proof.Machine

def exec (i : Instr) (s : State) : Host.Outcome State Fault Refusal :=
  match i with
  | .nop => Sys2Proof.Machine.execNop s
  | .sendLr => Sys2Proof.Machine.execSendLr s
  | .sendLd => Sys2Proof.Machine.execSendLd s
  | .sendLt => Sys2Proof.Machine.execSendLt s
  | .sendLa a b d => Sys2Proof.Machine.execSendLa a b d s
  | .closeLink => Sys2Proof.Machine.execCloseLink s
  | .openLink => Sys2Proof.Machine.execOpenLink s
  | .rxRelease => Sys2Proof.Machine.execRxRelease s
  | .clrCounters => Sys2Proof.Machine.execClrCounters s
  | .rxLr len body => Sys2Proof.Machine.execRxLr len body s
  | .rxLd len body => Sys2Proof.Machine.execRxLd len body s
  | .rxLt len q data => Sys2Proof.Machine.execRxLt len q data s
  | .rxLa len q c data => Sys2Proof.Machine.execRxLa len q c data s

end Sys2Proof.Machine
end

