-- ==== Sys2Proof/Machine/HostBus.lean ====
section
/-! DEFINITION. The host register space (spec/20_memory.md R70 to R86): the address map, reads and writes
(spec/46_host_commands.md R310, R311, R321, R322). -/

namespace Sys2Proof.Machine

/-! ## The address map (R70, R72) -/

/-- The word offset an access reaches: offset bits [1:0] are ignored (R70). -/
def wordOffset (addr : Offset) : Nat := (addr &&& 0x3FFC#14).toNat

/-- `off` lies in a buffer window of MAXPKT octets at `base`. -/
def inWindow (base : Nat) (p : Params) (off : Nat) : Bool := decide (base ≤ off) && decide (off < base + p.maxpkt)

/-- The base of TX_BUF. -/
def txBufBase : Nat := 0x1000

/-- The base of RX_BUF. -/
def rxBufBase : Nat := 0x2000

/-! ## Reads (R321) -/

/-- RX_BUF octet `k` (10_state.md R42). -/
def rxBufOctet (s : State) (k : Nat) : Octet :=
  match s.rxq with
  | [] => 0
  | e :: _ => e.payload.getD k 0

/-- Four octets as a word, the first in bits [7:0] (R73). -/
def wordOf (b0 b1 b2 b3 : Octet) : Word := b3 ++ b2 ++ b1 ++ b0

/-- Octet `i` of a word, `v[8i+7:8i]` (R73). -/
def octetOf (v : Word) (i : Nat) : Octet := v.extractLsb' (8 * i) 8

/-- TX_BUF's word at window offset `k`. -/
def txBufWord (s : State) (k : Nat) : Word :=
  wordOf (txBufOctet s k) (txBufOctet s (k + 1)) (txBufOctet s (k + 2)) (txBufOctet s (k + 3))

/-- RX_BUF's word at window offset `k`. -/
def rxBufWord (s : State) (k : Nat) : Word :=
  wordOf (rxBufOctet s k) (rxBufOctet s (k + 1)) (rxBufOctet s (k + 2)) (rxBufOctet s (k + 3))

/-- ID (10_state.md R22). -/
def idWord : Word := 0x4D4E5001

/-- The registers, by word offset; CMD, reserved offsets and reserved bits read 0 (R72, R74). -/
def readRegister (s : State) (off : Nat) : Word :=
  match off with
  | 0x000 => idWord
  | 0x008 => statusWord s
  | 0x00C => s.irqStatus.setWidth 32
  | 0x010 => s.irqEnable.setWidth 32
  | 0x014 => s.cfgTimeout
  | 0x018 => s.cfgRetry.setWidth 32
  | 0x01C => s.cfgMaxinfo.setWidth 32
  | 0x020 => s.txLen.setWidth 32
  | 0x024 => seqStateWord s
  | 0x028 => ackStateWord s
  | 0x02C => arbStateWord s
  | 0x030 => s.timer
  | 0x034 => queueStateWord s
  | 0x038 => rxHead0Word s
  | 0x03C => rxHead1Word s
  | 0x040 => s.cntFrameErr.setWidth 32
  | 0x044 => s.cntSeqDrop.setWidth 32
  | 0x048 => s.cntRxOverflow.setWidth 32
  | _ => 0

/-- The word at a word offset. -/
def readWord (s : State) (off : Nat) : Word :=
  if inWindow txBufBase s.params off then txBufWord s (off - txBufBase)
  else if inWindow rxBufBase s.params off then rxBufWord s (off - rxBufBase)
  else readRegister s off

/-- `MemRead(addr, 4)` (R321). -/
def memRead (s : State) (addr : Offset) : Word := readWord s (wordOffset addr)

/-! ## Writes (R322) -/

/-- CFG_RETRY, write any value and read back a legal one (10_state.md R25). -/
def legalRetry (v : Octet) : Octet := if v = 0 then 1 else v

/-- CFG_MAXINFO, clamped to 1..MAXPKT - 5 (10_state.md R26). -/
def legalMaxinfo (p : Params) (v : Word16) : Word16 := BitVec.ofNat 16 (min (max v.toNat 1) (p.maxpkt - 5))

/-- TX_BUF's word at window offset `k` (R73). -/
def writeTxBufWord (k : Nat) (v : Word) (s : State) : State :=
  storeTxOctet (k + 3) (octetOf v 3) (storeTxOctet (k + 2) (octetOf v 2)
    (storeTxOctet (k + 1) (octetOf v 1) (storeTxOctet k (octetOf v 0) s)))

/-- The registers other than CMD, by word offset; a write to any other offset has no effect (R74). -/
def writeRegister (off : Nat) (v : Word) (s : State) : State :=
  match off with
  | 0x00C => irqClear (v.extractLsb' 0 8) s
  | 0x010 => { s with irqEnable := v.extractLsb' 0 8 }
  | 0x014 => { s with cfgTimeout := v }
  | 0x018 => { s with cfgRetry := legalRetry (v.extractLsb' 0 8) }
  | 0x01C => { s with cfgMaxinfo := legalMaxinfo s.params (v.extractLsb' 0 16) }
  | 0x020 => { s with txLen := v.extractLsb' 0 16 }
  | _ => s

/-- A write to a word offset other than CMD's. -/
def writeWord (off : Nat) (v : Word) (s : State) : State :=
  if inWindow txBufBase s.params off then writeTxBufWord (off - txBufBase) v s else writeRegister off v s

/-- The code a word that is no command gets (R310, 30_encoding.md R125). -/
def rejectCode : Reject → CmdErr
  | .reservedBits => .reservedBits
  | _ => .illegalOpcode

/-- A CMD write (R310, R311). -/
def cmdWrite (w : Word) (s : State) : Host.Outcome State Fault Refusal :=
  match decodeCmd w with
  | .ok i => exec i s
  | .error e => .next (finishCommand (rejectCode e) s)

/-- `MemWrite(addr, 4, v)`. -/
def memWrite (addr : Offset) (v : Word) (s : State) : Host.Outcome State Fault Refusal :=
  if wordOffset addr = 0x004 then cmdWrite v s else .next (writeWord (wordOffset addr) v s)

/-- One host bus access: a read leaves the word on `rdata` and changes nothing else (R78). -/
def hostAccess (a : Access) (s : State) : Host.Outcome State Fault Refusal :=
  match a with
  | .read addr => .next { s with rdata := memRead s addr }
  | .write addr v => memWrite addr v s

end Sys2Proof.Machine
end

