-- ==== Sys2Proof/Machine/Rxd.lean ====
section
/-! DEFINITION. The receive deframer RXD (spec/42_frame_decoder.md R180 to R195): one transition per state and input. -/

namespace Sys2Proof.Machine

/-- HUNT0 (R181). -/
def rxdHunt0 (o : Octet) (s : State) : State := { s with stRxd := if o = syn then .hunt1 else .hunt0 }

/-- HUNT1 (R182): the mismatching octet is discarded, not examined again. -/
def rxdHunt1 (o : Octet) (s : State) : State := { s with stRxd := if o = dle then .hunt2 else .hunt0 }

/-- HUNT2 (R183). -/
def rxdHunt2 (o : Octet) (s : State) : State :=
  if o = stx then { s with rxAcc := [], rxCrc := crcStart s.params.crcVariant, stRxd := .data }
  else { s with stRxd := .hunt0 }

/-- A logical payload octet (R184, R186): appended and CRC-updated, or FrameError(OVERFLOW) past MAXPKT. -/
def rxdAppend (o : Octet) (s : State) : State :=
  if s.rxAcc.length = s.params.maxpkt then frameError .overflow s
  else { s with rxAcc := s.rxAcc ++ [o], rxCrc := crcUpdate s.params.crcVariant s.rxCrc o, stRxd := .data }

/-- DATA (R184, R185). -/
def rxdData (o : Octet) (s : State) : State := if o = dle then { s with stRxd := .esc } else rxdAppend o s

/-- ESC (R186, R187, R188). -/
def rxdEsc (o : Octet) (s : State) : State :=
  if o = dle then rxdAppend dle s
  else if o = etx then { s with rxCrc := crcUpdate s.params.crcVariant s.rxCrc etx, stRxd := .fcs1 }
  else frameError .escape s

/-- FCS1 (R189). -/
def rxdFcs1 (o : Octet) (s : State) : State := { s with fcsLo := o, stRxd := .fcs2 }

/-- `classify(p)` (43_packet_header.md R215), read off the decoder. -/
def classify (p : List Octet) : RxKind × Octet × Octet :=
  match decodePacket p with
  | .ok (.rxLr _ _) => (.lr, 0, 0)
  | .ok (.rxLd _ _) => (.ld, 0, 0)
  | .ok (.rxLt _ q _) => (.lt, q, 0)
  | .ok (.rxLa _ q c _) => (.la, q, c)
  | _ => (.other, 0, 0)

/-- The packet a good payload is: an instruction of the opcode table, or OTHER (43_packet_header.md R215, R220). -/
def frameGood (p : List Octet) (s : State) : Host.Outcome State Fault Refusal :=
  match decodePacket p with
  | .ok i => exec i s
  | .error _ => .next (deliverOther p s)

/-- The trailer check of FCS2 (40_crc16.md R147): the second octet is the high one. -/
def trailerGood (o : Octet) (s : State) : Bool := crcFinish s.params.crcVariant s.rxCrc == o ++ s.fcsLo

/-- FCS2 (R190, R191). -/
def rxdFcs2 (o : Octet) (s : State) : Host.Outcome State Fault Refusal :=
  if trailerGood o s then thenNext rxdIdle (frameGood s.rxAcc s) else .next (frameError .crc s)

/-- RXD takes one octet. -/
def rxdOctet (o : Octet) (s : State) : Host.Outcome State Fault Refusal :=
  match s.stRxd with
  | .hunt0 => .next (rxdHunt0 o s)
  | .hunt1 => .next (rxdHunt1 o s)
  | .hunt2 => .next (rxdHunt2 o s)
  | .data => .next (rxdData o s)
  | .esc => .next (rxdEsc o s)
  | .fcs1 => .next (rxdFcs1 o s)
  | .fcs2 => rxdFcs2 o s

/-- RXD takes EOS: EndOfStream in every state (R192, 60_exceptions.md R352). -/
def rxdEos (s : State) : State := closeLinkWith .eos { rxdIdle s with eosSeen := true }

/-- RXD takes one input. -/
def rxdTake (x : RxInput) (s : State) : Host.Outcome State Fault Refusal :=
  match x with
  | .octet o => rxdOctet o s
  | .eos => .next (rxdEos s)

/-- RXD's turn: a step exactly when the link is open and input is offered (R180). -/
def rxdStep (s : State) : Host.Outcome State Fault Refusal :=
  if s.linkOpen then
    match s.rxIn with
    | [] => .next s
    | x :: rest => rxdTake x { s with rxIn := rest }
  else .next s

end Sys2Proof.Machine
end

