-- ==== Sys2Proof/Machine/Events.lean ====
section
/-! DEFINITION. What one item of the schedule does (spec/00_scope.md R6 to R8), and how an instruction is placed where the
next step takes it. -/

namespace Sys2Proof.Machine

/-- One agent's turn, or one change of an input. -/
def runEvent (e : Event) (s : State) : Host.Outcome State Fault Refusal :=
  match e with
  | .host a => hostAccess a s
  | .rxd => rxdStep s
  | .txf => txfStep s
  | .arb => .next (arbStep s)
  | .tick => .next (tmrTick s)
  | .offer x => .next { s with rxIn := s.rxIn ++ [x] }
  | .setTxReady b => .next { s with txReady := b }
  | .setSendAllowed b => .next { s with sendAllowed := b }
  | .rst => .next (applyReset s)

/-- A command word placed as the host's next access, a write to CMD. -/
def placeCommand (w : Word) (s : State) : State :=
  { s with schedule := .host (.write 0x004 w) :: s.schedule }

/-- A payload placed as the frame RXD is about to find good: the link open (R180), RXD in FCS2 with the payload taken, the
trailer that its running CRC asks for (its last octet offered, 40_crc16.md R147), and RXD's turn next. -/
def placePacket (p : List Octet) (s : State) : State :=
  { s with
    linkOpen := true, stRxd := .fcs2, rxAcc := p,
    fcsLo := (crcFinish s.params.crcVariant s.rxCrc).extractLsb' 0 8,
    rxIn := .octet ((crcFinish s.params.crcVariant s.rxCrc).extractLsb' 8 8) :: s.rxIn,
    schedule := .rxd :: s.schedule }

/-- A code placed where the next step takes it. -/
def placeCode (c : Code) (s : State) : State :=
  match c with
  | .cmd w => placeCommand w s
  | .pkt p => placePacket p s

end Sys2Proof.Machine
end

