-- ==== Sys2Proof/Machine/Step.lean ====
section
/-! DEFINITION. One step: the head of the schedule happens (spec/00_scope.md R6, R7; notes/assumptions/1.md). With nothing
scheduled nothing happens (60_exceptions.md R366; notes/assumptions/2.md). -/

namespace Sys2Proof.Machine

/-- One step. -/
def step (s : State) : Host.Outcome State Fault Refusal :=
  match s.schedule with
  | [] => .next s
  | e :: rest => runEvent e { s with schedule := rest }

/-- The instruction whose opcode-table bits are `w`, placed where the next step takes it: a command word as the host's next
CMD write, a type code in a payload that RXD is about to find good (notes/assumptions/10.md, 11.md). -/
def State.withFetchWord (s : State) (nbits w : Nat) : State := placeCode (tableCode nbits w) s

end Sys2Proof.Machine
end

