-- ==== Sys2Proof/Safety.lean ====
section
/-! DEFINITION. What counts as a safe state, in the terms the statements use: the ranges, links and idle values that the
spec's rules keep. `State.Inv` is meant to hold at reset and after every step. -/

namespace Sys2Proof.Machine

/-- Legal parameters and legal configuration registers (00_scope.md R9, 10_state.md R25, R26). -/
structure ConfigInv (s : State) : Prop where
  params_wf : s.params.wf = true
  retry_pos : 1 ≤ s.cfgRetry.toNat
  maxinfo_pos : 1 ≤ s.cfgMaxinfo.toNat
  maxinfo_le : s.cfgMaxinfo.toNat ≤ s.params.maxpkt - 5

/-- TX_BUF is in canonical form and holds nothing at or beyond MAXPKT (20_memory.md R74). -/
structure MemoryInv (s : State) : Prop where
  canonical : Memory.wf s.txBuf = true
  bounded : ∀ c ∈ s.txBuf, c.1 < s.params.maxpkt

/-- Bounded queues of bounded packets; only an LT carries a sequence (10_state.md R34, R43, R44). -/
structure QueueInv (s : State) : Prop where
  txq_le : s.txq.length ≤ s.params.txqDepth
  rxq_le : s.rxq.length ≤ s.params.rxqDepth
  txq_payload : ∀ e ∈ s.txq, e.payload.length ≤ s.params.maxpkt
  txq_seq : ∀ e ∈ s.txq, e.kind ≠ .lt → e.seq = 0
  rxq_payload : ∀ e ∈ s.rxq, e.payload.length ≤ s.params.maxpkt

/-- RXD hunts for a delimiter. -/
abbrev Hunting (s : State) : Prop := s.stRxd = .hunt0 ∨ s.stRxd = .hunt1 ∨ s.stRxd = .hunt2

/-- RXD's accumulators: empty while hunting, else the running CRC of what has been received (10_state.md R45,
40_crc16.md R147). -/
structure RxdInv (s : State) : Prop where
  acc_le : s.rxAcc.length ≤ s.params.maxpkt
  hunting : Hunting s → s.rxAcc = [] ∧ s.rxCrc = 0
  payload : s.stRxd = .data ∨ s.stRxd = .esc → s.rxCrc = crcRunning s.params.crcVariant s.rxAcc
  trailer : s.stRxd = .fcs1 ∨ s.stRxd = .fcs2 → s.rxCrc = crcRunning s.params.crcVariant (s.rxAcc ++ [etx])
  fcs_lo : s.stRxd ≠ .fcs2 → s.fcsLo = 0

/-- TXF: empty while IDLE; while BUSY it sends the pending packet's frame for ARB, which is SENDING (10_state.md R46,
R47). -/
structure TxfInv (s : State) : Prop where
  idle : s.stTxf = .idle → s.txWire = [] ∧ s.txIdx = 0
  busy : s.stTxf = .busy →
    s.txIdx < s.txWire.length ∧ s.txWire = encodeFrame s.params.crcVariant s.pendPayload ∧ s.stArb = .sending

/-- The pending record while nothing is pending (10_state.md R34). -/
abbrev NothingPending (s : State) : Prop :=
  s.pendingKind = none ∧ s.pendingSeq = 0 ∧ s.attempts = 0 ∧ s.pendPayload = [] ∧ s.ackMatch = false

/-- ARB and the pending record (10_state.md R33 to R35, R47, R48). -/
structure ArbInv (s : State) : Prop where
  valid_iff : s.pendingValid = true ↔ s.stArb ≠ .idle
  nothing : s.pendingValid = false → NothingPending s
  kind : s.pendingValid = true → ∃ k, s.pendingKind = some k ∧ s.needsAck = k.needsAck ∧ (k ≠ .lt → s.pendingSeq = 0)
  payload_le : s.pendPayload.length ≤ s.params.maxpkt
  timer : s.stArb ≠ .wait → s.timer = 0
  hold_attempts : s.stArb = .hold → s.attempts.toNat ≤ 254
  begun : s.stArb = .sending ∨ s.stArb = .wait → 1 ≤ s.attempts.toNat
  wait_needs : s.stArb = .wait → s.needsAck = true
  once : s.needsAck = false → (s.stArb = .hold → s.attempts = 0) ∧ s.attempts.toNat ≤ 1
  matched : s.ackMatch = true → s.needsAck = true ∧ 1 ≤ s.attempts.toNat

/-- What a closed link and an open link look like (45_retransmission.md R285, 46_host_commands.md R318). -/
structure LinkInv (s : State) : Prop where
  closed : s.linkOpen = false → s.stArb = .idle ∧ s.txq = [] ∧ s.stTxf = .idle ∧ s.stRxd = .hunt0
  opened : s.linkOpen = true → s.closeCause = none
  eos_iff : s.eosSeen = true ↔ s.closeCause = some .eos
  no_la : s.laSeen = false → s.lastAckSeq = 0 ∧ s.lastCredit = 0

/-- The invariant of every step. -/
structure State.Inv (s : State) : Prop where
  config : ConfigInv s
  memory : MemoryInv s
  queues : QueueInv s
  rxd : RxdInv s
  txf : TxfInv s
  arb : ArbInv s
  link : LinkInv s

/-! ## Terms of the statements -/

/-- A refused command: the code and CMD_ERR, nothing else (46_host_commands.md R311, 10_state.md R27 bit 7). -/
def refusedState (e : CmdErr) (s : State) : State := { s with cmdErr := e, irqStatus := s.irqStatus ||| 0x80#8 }

/-- A command with no operands: its OP with a reserved bit set is refused, and its one word is the instruction (30_encoding.md
R124, 46_host_commands.md R310). -/
def CommandWord (op : Nat) (i : Instr) (s : State) : Prop :=
  (∀ w : Word, w.toNat % 256 = op → w.toNat / 256 ≠ 0 → cmdWrite w s = .next (refusedState .reservedBits s)) ∧
  cmdWrite (BitVec.ofNat 32 op) s = exec i s

/-- `min(c + 1, 0xFFFF)` (00_scope.md R12). -/
def countOne (c : Word16) : Word16 := BitVec.ofNat 16 (min (c.toNat + 1) 0xFFFF)

/-- A link closed for `c`, with the interrupt bits `m` set (45_retransmission.md R285). -/
def closedState (c : CloseCause) (m : Octet) (s : State) : State :=
  { s with
    txq := [], pendingValid := false, pendingKind := none, pendingSeq := 0, attempts := 0, pendPayload := [],
    ackMatch := false, timer := 0, stArb := .idle, stTxf := .idle, txWire := [], txIdx := 0,
    rxAcc := [], rxCrc := 0, fcsLo := 0, stRxd := .hunt0, linkOpen := false, closeCause := some c,
    irqStatus := s.irqStatus ||| m }

/-- The pending packet completed with an acknowledgement (R278), with the interrupt bits `m` set. -/
def ackedState (m : Octet) (s : State) : State :=
  { s with
    pendingValid := false, pendingKind := none, pendingSeq := 0, attempts := 0, pendPayload := [],
    ackMatch := false, timer := 0, stArb := .idle, irqStatus := s.irqStatus ||| m }

/-- RXD back in HUNT0 with its accumulators empty (42_frame_decoder.md R190, R195). -/
def huntingState (s : State) : State := { s with rxAcc := [], rxCrc := 0, fcsLo := 0, stRxd := .hunt0 }

/-- A frame dropped and counted (42_frame_decoder.md R195). -/
def droppedFrameState (s : State) : State := { huntingState s with cntFrameErr := countOne s.cntFrameErr }

/-- A good packet delivered (43_packet_header.md R222). -/
def deliveredState (k : RxKind) (q c : Octet) (p : List Octet) (s : State) : State :=
  { s with rxq := s.rxq ++ [{ kind := k, seq := q, credit := c, payload := p }], irqStatus := s.irqStatus ||| 0x01#8 }

/-- An LA's acknowledgement effect (44_sequencer.md R250, R251). -/
def laRecordedState (q c : Octet) (s : State) : State :=
  { s with
    lastAckSeq := q, lastCredit := c, laSeen := true,
    ackMatch := s.ackMatch || decide (s.pendingValid = true ∧ s.needsAck = true ∧ 1 ≤ s.attempts.toNat ∧
      ((s.pendingKind = some .lr ∧ q = 0) ∨ (s.pendingKind = some .lt ∧ q = s.pendingSeq))) }

/-- The events of one attempt that nothing acknowledges (45_retransmission.md R288): the attempt starts, `n` octets are
emitted, WAIT is entered, `ticks` ticks pass, the wait expires. -/
def attemptEvents (n ticks : Nat) : List Event :=
  [.arb] ++ List.replicate n .txf ++ [.arb] ++ List.replicate ticks .tick ++ [.arb]

/-- `k` host CMD writes of the word `w`. -/
def cmdWrites (k : Nat) (w : Word) : List Event := List.replicate k (.host (.write 0x004 w))

end Sys2Proof.Machine
end

