-- ==== Sys2Proof/WellFormed.lean ====
section
/-! DEFINITION. Which instruction terms an encoding can hold. -/

namespace Sys2Proof

/-- How many octets a length field has (30_encoding.md R108). -/
def LenField.size : LenField → Nat
  | .short _ => 1
  | .extended _ => 3

/-- The short form holds 0x00 to 0xFE: 0xFF announces the extended form (R108). -/
def LenField.wf : LenField → Bool
  | .short l => l != 0xFF#8
  | .extended _ => true

/-- A received packet: a legal length field, and no more octets than the largest MAXPKT of 00_scope.md R9 (a longer frame
is never good, 42_frame_decoder.md R184). -/
def packetWf (len : LenField) (body : List Octet) : Bool :=
  len.wf && decide (len.size + 1 + body.length ≤ Config.maxMaxpkt)

/-- The check of every instruction. -/
def Instr.wf : Instr → Bool
  | .nop => true
  | .sendLr => true
  | .sendLd => true
  | .sendLt => true
  | .sendLa _ _ _ => true
  | .closeLink => true
  | .openLink => true
  | .rxRelease => true
  | .clrCounters => true
  | .rxLr len body => packetWf len body
  | .rxLd len body => packetWf len body
  | .rxLt len seq data => packetWf len (seq :: data)
  | .rxLa len seq credit data => packetWf len (seq :: credit :: data)

end Sys2Proof
end

