-- ==== Sys2Proof/Certificates/Slice0/Obligations.lean ====
section
/-! DEFINITION. The statements for the provers, from the numbered rules of spec/. Next states are written out as the record
the rules give, so every register, flag and octet not named is stated unchanged. -/

open Sys2Proof Sys2Proof.Machine

/-! ## Encodings -/

/-- The decoder reads back what the encoder writes, for every well-formed instruction of the opcode table. -/
def Obligations.DecodeOfEncodeIsIdentity : Prop :=
  ∀ i : Instr, i.wf = true → decode (encode i) = .ok i

/-- Every command word and every payload has at most one meaning: the encoder gives back the code that was decoded. -/
def Obligations.EncodeOfDecodeIsIdentity : Prop :=
  ∀ (c : Code) (i : Instr), decode c = .ok i → encode i = c

/-- 30_encoding.md R125: the match and mask pairs of opcode_table.json select exactly the legal command words. -/
def Obligations.LegalWordsAreTheTableRows : Prop :=
  ∀ w : Word, (∃ i, decodeCmd w = .ok i) ↔
    w ∈ [0x00#32, 0x01#32, 0x02#32, 0x04#32, 0x08#32, 0x09#32, 0x0A#32, 0x0B#32] ∨ w &&& 0xFE0000FF#32 = 0x00000005#32

/-- 30_encoding.md R123, R124: an illegal OP is only recorded, whatever the other bits are; a legal OP with a reserved bit
set is refused. -/
def Obligations.MalformedCommandWordsRefused : Prop :=
  ∀ (w : Word) (s : State),
    (w.toNat % 256 ∉ [0x00, 0x01, 0x02, 0x04, 0x05, 0x08, 0x09, 0x0A, 0x0B] →
      cmdWrite w s = .next (refusedState .illegalOpcode s)) ∧
    (w.toNat % 256 ∈ [0x00, 0x01, 0x02, 0x04, 0x08, 0x09, 0x0A, 0x0B] → w.toNat / 256 ≠ 0 →
      cmdWrite w s = .next (refusedState .reservedBits s)) ∧
    (w.toNat % 256 = 0x05 → w.toNat / 2 ^ 25 ≠ 0 → cmdWrite w s = .next (refusedState .reservedBits s))

/-- 43_packet_header.md R214, R215: the classification by the octets at the type offset. -/
def Obligations.ClassifyReadsTypeOffset : Prop :=
  ∀ p : List Octet,
    let t := if p.getD 0 0 = 0xFF#8 then 3 else 1
    classify p =
      if p.length < t + 1 then (.other, 0, 0)
      else if p.getD t 0 = 0x01#8 then (.lr, 0, 0)
      else if p.getD t 0 = 0x02#8 then (.ld, 0, 0)
      else if p.getD t 0 = 0x04#8 ∧ t + 2 ≤ p.length then (.lt, p.getD (t + 1) 0, 0)
      else if p.getD t 0 = 0x05#8 ∧ t + 3 ≤ p.length then (.la, p.getD (t + 1) 0, p.getD (t + 2) 0)
      else (.other, 0, 0)

/-- Words and payloads written out from the tables of 30_encoding.md and the vectors of 95_test_vectors.md. -/
def Obligations.SampleCodesDecode : Prop :=
  decode (.cmd 0x00000000) = .ok .nop ∧ decode (.cmd 0x00000004) = .ok .sendLt ∧
  decode (.cmd 0x00080105) = .ok (.sendLa 0x01 0x08 false) ∧ decode (.cmd 0x01080105) = .ok (.sendLa 0x01 0x08 true) ∧
  decode (.cmd 0x02000005) = .error .reservedBits ∧ decode (.cmd 0x00000103) = .error .illegalOpcode ∧
  decode (.pkt [0x04, 0x01, 0x02, 0x01, 0x06]) = .ok (.rxLr (.short 0x04) [0x02, 0x01, 0x06]) ∧
  decode (.pkt [0x02, 0x02, 0x01]) = .ok (.rxLd (.short 0x02) [0x01]) ∧
  decode (.pkt [0xFF, 0x00, 0x02, 0x04, 0x01]) = .ok (.rxLt (.extended 0x0002) 0x01 []) ∧
  decode (.pkt [0x03, 0x05, 0x01, 0x08]) = .ok (.rxLa (.short 0x03) 0x01 0x08 []) ∧
  decode (.pkt [0x02, 0x05, 0x01]) = .error .laWithoutCredit

/-! ## CRC and frames -/

/-- The table form that 40_crc16.md R144 derives from R142 (the spec's own inference), with its first entries. -/
def Obligations.CrcTableForm : Prop :=
  (∀ (c : Word16) (o : Octet), arcUpdate c o = (c >>> 8) ^^^ arcUpdate 0 (c.extractLsb' 0 8 ^^^ o)) ∧
  arcUpdate 0 0 = 0x0000 ∧ arcUpdate 0 1 = 0xC0C1 ∧ arcUpdate 0 2 = 0xC181 ∧ arcUpdate 0 3 = 0x0140

/-- With the parameters of CRC-16/ARC the Rocksoft form of 40_crc16.md R149 is the default variant (R149's remark, marked
as general knowledge). -/
def Obligations.RocksoftFormEqualsArc : Prop :=
  ∀ p : List Octet, crc16 (.rocksoft 0x8005 0x0000 true true 0x0000) p = crc16 .arc p

/-- The residue of a good frame is 0: 40_crc16.md R148, the spec's own inference from R142. -/
def Obligations.GoodFrameResidueIsZero : Prop :=
  ∀ p : List Octet,
    crc16 .arc (p ++ [0x03#8, (fcs .arc p).extractLsb' 0 8, (fcs .arc p).extractLsb' 8 8]) = 0x0000

/-- For the default variant one flipped bit changes the frame check value: 40_crc16.md R150, marked informative and from
general knowledge. -/
def Obligations.SingleBitFlipChangesFcs : Prop :=
  ∀ (p : List Octet) (i b : Nat), i < p.length → b < 8 →
    fcs .arc (p.set i (p.getD i 0 ^^^ (1#8 <<< b))) ≠ fcs .arc p

/-- 30_encoding.md R100: the fields of a frame in transmission order; and the length and smallest frame that R106 derives
from it. -/
def Obligations.FrameLayoutAndLength : Prop :=
  (∀ (v : CrcVariant) (p : List Octet),
    encodeFrame v p =
      [0x16#8, 0x10#8, 0x02#8] ++ p.flatMap (fun o => if o = 0x10#8 then [0x10#8, 0x10#8] else [o]) ++
      [0x10#8, 0x03#8, (crc16 v (p ++ [0x03#8])).extractLsb' 0 8, (crc16 v (p ++ [0x03#8])).extractLsb' 8 8] ∧
    (encodeFrame v p).length = 7 + p.length + p.count 0x10#8) ∧
  encodeFrame .arc [] = [0x16, 0x10, 0x02, 0x10, 0x03, 0x40, 0x01]

/-- The incremental generator emits the octets of `encode` (41_frame_encoder.md R160), whatever CRC it starts with: for
the default variant the spec's own inference R166; the start and the end of the running CRC of any other variant are the
model's deduction (notes/assumptions/9.md). -/
def Obligations.IncrementalGeneratorEqualsEncode : Prop :=
  ∀ (v : CrcVariant) (p : List Octet) (c : Word16) (n : Nat), (encodeFrame v p).length ≤ n →
    encRun v p n c .start0 = encodeFrame v p

/-- 43_packet_header.md R211, R212: the headers MNPLINK builds, octet by octet, in both length modes. -/
def Obligations.BuiltHeadersOctetByOctet : Prop :=
  ∀ (q c : Octet) (d : List Octet), d.length ≤ 4096 →
    buildLt .header q d = [0x02, 0x04, q] ++ d ∧
    buildLa .header q c d = [0x03, 0x05, q, c] ++ d ∧
    (d.length ≤ 252 → buildLt .remainder q d = [BitVec.ofNat 8 (2 + d.length), 0x04, q] ++ d) ∧
    (252 < d.length → buildLt .remainder q d =
      [0xFF, BitVec.ofNat 8 ((2 + d.length) / 256), BitVec.ofNat 8 ((2 + d.length) % 256), 0x04, q] ++ d) ∧
    (d.length ≤ 251 → buildLa .remainder q c d = [BitVec.ofNat 8 (3 + d.length), 0x05, q, c] ++ d) ∧
    (251 < d.length → buildLa .remainder q c d =
      [0xFF, BitVec.ofNat 8 ((3 + d.length) / 256), BitVec.ofNat 8 ((3 + d.length) % 256), 0x05, q, c] ++ d)

/-- A receiver reads back the kind, sequence and credit of a header MNPLINK builds, in both length modes (43_packet_header.md
R211, R212, R215). -/
def Obligations.BuiltHeadersClassifyBack : Prop :=
  ∀ (m : LenMode) (q c : Octet) (d : List Octet), d.length ≤ 4096 →
    classify (buildLt m q d) = (.lt, q, 0) ∧ classify (buildLa m q c d) = (.la, q, c)

/-! ## The receive deframer -/

/-- RXD in HUNT0, given an encoded payload, calls `frame_good` once, on that payload, and ends in HUNT0; nothing else
changes, so no FrameError is counted: 42_frame_decoder.md R196, the spec's own inference from R181 to R190;
the running CRC of a non-default variant is the model's deduction (notes/assumptions/9.md). -/
def Obligations.RxdDecodesEncodedFrame : Prop :=
  ∀ (s : State) (p : List Octet) (rest : List RxInput) (sch : List Event),
    s.linkOpen = true → s.stRxd = .hunt0 → p.length ≤ s.params.maxpkt →
    s.rxIn = (encodeFrame s.params.crcVariant p).map .octet ++ rest →
    s.schedule = List.replicate (encodeFrame s.params.crcVariant p).length .rxd ++ sch →
    ∃ t, frameGood p { s with rxIn := rest, schedule := sch } = .next t ∧
      Host.Core.run Sys2Proof.core (encodeFrame s.params.crcVariant p).length s =
        .next { t with rxAcc := [], rxCrc := 0, fcsLo := 0, stRxd := .hunt0 }

/-- RXD's whole transition for every state and octet, OVERFLOW included, by 42_frame_decoder.md R181 to R191 (R194 is the
spec's own summary of them); what is not named is unchanged. For a non-default variant the start of the running CRC in HUNT2
and the form compared in FCS2 are the model's deduction (notes/assumptions/9.md). -/
def Obligations.RxdTransitionTable : Prop :=
  ∀ (s u : State) (o : Octet) (rest : List RxInput),
    s.linkOpen = true → s.rxIn = .octet o :: rest → u = { s with rxIn := rest } →
    match s.stRxd with
    | .hunt0 => rxdStep s = .next { u with stRxd := if o = 0x16#8 then .hunt1 else .hunt0 }
    | .hunt1 => rxdStep s = .next { u with stRxd := if o = 0x10#8 then .hunt2 else .hunt0 }
    | .hunt2 =>
      rxdStep s = .next (
        if o = 0x02#8 then
          { u with
            rxAcc := [], stRxd := .data,
            rxCrc := match s.params.crcVariant with | .arc => 0x0000 | .rocksoft _ init _ _ _ => init }
        else { u with stRxd := .hunt0 })
    | .data =>
      rxdStep s = .next (
        if o = 0x10#8 then { u with stRxd := .esc }
        else if s.rxAcc.length = s.params.maxpkt then droppedFrameState u
        else { u with rxAcc := s.rxAcc ++ [o], rxCrc := crcUpdate s.params.crcVariant s.rxCrc o })
    | .esc =>
      rxdStep s = .next (
        if o = 0x10#8 then
          if s.rxAcc.length = s.params.maxpkt then droppedFrameState u
          else { u with rxAcc := s.rxAcc ++ [0x10], rxCrc := crcUpdate s.params.crcVariant s.rxCrc 0x10, stRxd := .data }
        else if o = 0x03#8 then { u with rxCrc := crcUpdate s.params.crcVariant s.rxCrc 0x03, stRxd := .fcs1 }
        else droppedFrameState u)
    | .fcs1 => rxdStep s = .next { u with fcsLo := o, stRxd := .fcs2 }
    | .fcs2 =>
      if crcFinish s.params.crcVariant s.rxCrc = o ++ s.fcsLo then
        ∃ t, frameGood s.rxAcc u = .next t ∧ rxdStep s = .next (huntingState t)
      else rxdStep s = .next (droppedFrameState u)

/-- 42_frame_decoder.md R195 with the causes of R193: a bad escape, an over-long payload and a CRC mismatch each drop the
frame, count one and change nothing else. For a non-default CRC variant the form of `rx_crc` that is compared is the model's
deduction (notes/assumptions/9.md). -/
def Obligations.FrameErrorDropsAndCounts : Prop :=
  ∀ (s : State) (o : Octet) (rest : List RxInput), s.linkOpen = true → s.rxIn = .octet o :: rest →
    ((s.stRxd = .esc ∧ o ≠ 0x10#8 ∧ o ≠ 0x03#8) ∨
      (s.stRxd = .data ∧ o ≠ 0x10#8 ∧ s.rxAcc.length = s.params.maxpkt) ∨
      (s.stRxd = .esc ∧ o = 0x10#8 ∧ s.rxAcc.length = s.params.maxpkt) ∨
      (s.stRxd = .fcs2 ∧ crcFinish s.params.crcVariant s.rxCrc ≠ o ++ s.fcsLo)) →
    rxdStep s = .next { s with
      rxIn := rest, rxAcc := [], rxCrc := 0, fcsLo := 0, stRxd := .hunt0, cntFrameErr := countOne s.cntFrameErr }

/-- 42_frame_decoder.md R192, 60_exceptions.md R352: EOS in any state closes the link with cause EOS. -/
def Obligations.EndOfStreamClosesLink : Prop :=
  ∀ (s : State) (rest : List RxInput), s.linkOpen = true → s.rxIn = .eos :: rest →
    rxdStep s = .next { closedState .eos 0x50 s with rxIn := rest, eosSeen := true }

/-! ## Received packets -/

/-- 43_packet_header.md R220: the packet-level action on any good payload, by its classification. -/
def Obligations.GoodFrameAction : Prop :=
  ∀ (p : List Octet) (s : State),
    frameGood p s = .next (
      match classify p with
      | (.lr, _, _) =>
        if s.rxq.length = s.params.rxqDepth then { s with cntRxOverflow := countOne s.cntRxOverflow }
        else { deliveredState .lr 0 0 p s with rxLast := 0 }
      | (.ld, _, _) =>
        if s.rxq.length = s.params.rxqDepth then { s with cntRxOverflow := countOne s.cntRxOverflow }
        else deliveredState .ld 0 0 p s
      | (.lt, q, _) =>
        if s.rxq.length = s.params.rxqDepth then { s with cntRxOverflow := countOne s.cntRxOverflow }
        else if q = s.rxLast + 1 then { deliveredState .lt q 0 p s with rxLast := q }
        else { s with cntSeqDrop := countOne s.cntSeqDrop }
      | (.la, q, c) =>
        if s.rxq.length = s.params.rxqDepth then
          { laRecordedState q c s with cntRxOverflow := countOne s.cntRxOverflow }
        else deliveredState .la q c p (laRecordedState q c s)
      | (.other, _, _) =>
        if s.rxq.length = s.params.rxqDepth then { s with cntRxOverflow := countOne s.cntRxOverflow }
        else deliveredState .other 0 0 p s)

/-- 43_packet_header.md R222, R224 and 44_sequencer.md R247: a received LR or LD that finds room is delivered whole, its
payload `p` being the octets it was read from; the LR resets RX_LAST; nothing else changes, LINK_OPEN included. -/
def Obligations.ReceivedLrAndLdDelivered : Prop :=
  ∀ (p : List Octet) (len : LenField) (body : List Octet) (s : State), s.rxq.length ≠ s.params.rxqDepth →
    (encode (.rxLr len body) = .pkt p →
      exec (.rxLr len body) s = .next { deliveredState .lr 0 0 p s with rxLast := 0 }) ∧
    (encode (.rxLd len body) = .pkt p → exec (.rxLd len body) s = .next (deliveredState .ld 0 0 p s))

/-- 44_sequencer.md R245, R246: when RXQ has room the next LT in sequence is accepted, and any other is dropped and counted
with nothing else changed. -/
def Obligations.ReceivedLtSequenceFilter : Prop :=
  ∀ (p : List Octet) (len : LenField) (q : Octet) (data : List Octet) (s : State),
    encode (.rxLt len q data) = .pkt p → s.rxq.length ≠ s.params.rxqDepth →
    (q.toNat = (s.rxLast.toNat + 1) % 256 →
      exec (.rxLt len q data) s = .next { deliveredState .lt q 0 p s with rxLast := q }) ∧
    (q.toNat ≠ (s.rxLast.toNat + 1) % 256 →
      exec (.rxLt len q data) s = .next { s with cntSeqDrop := countOne s.cntSeqDrop })

/-- 44_sequencer.md R250, R251: a received LA is recorded, acknowledges exactly the pending packet it matches, and is
delivered when RXQ has room. -/
def Obligations.ReceivedLaRecordsAndMatches : Prop :=
  ∀ (p : List Octet) (len : LenField) (q c : Octet) (data : List Octet) (s : State),
    encode (.rxLa len q c data) = .pkt p → s.rxq.length ≠ s.params.rxqDepth →
    exec (.rxLa len q c data) s = .next (deliveredState .la q c p (laRecordedState q c s))

/-- 43_packet_header.md R221, R223: when RXQ is full every packet is dropped and counted, but an LA still acknowledges. -/
def Obligations.FullReceiveQueueDropsPacket : Prop :=
  ∀ (len : LenField) (body : List Octet) (q c : Octet) (s : State), s.rxq.length = s.params.rxqDepth →
    exec (.rxLr len body) s = .next { s with cntRxOverflow := countOne s.cntRxOverflow } ∧
    exec (.rxLd len body) s = .next { s with cntRxOverflow := countOne s.cntRxOverflow } ∧
    exec (.rxLt len q body) s = .next { s with cntRxOverflow := countOne s.cntRxOverflow } ∧
    exec (.rxLa len q c body) s =
      .next { laRecordedState q c s with cntRxOverflow := countOne s.cntRxOverflow } ∧
    deliverOther body s = { s with cntRxOverflow := countOne s.cntRxOverflow }

/-! ## Host commands -/

/-- 46_host_commands.md R312, R320: NOP clears the code and CLR_COUNTERS also the counters; their words and the refusal of
reserved bits. -/
def Obligations.NopAndClrCountersResults : Prop :=
  ∀ s : State,
    CommandWord 0x00 .nop s ∧ exec .nop s = .next { s with cmdErr := .ok } ∧
    CommandWord 0x0B .clrCounters s ∧
    exec .clrCounters s = .next { s with cntFrameErr := 0, cntSeqDrop := 0, cntRxOverflow := 0, cmdErr := .ok }

/-- 46_host_commands.md R313: SEND_LR, its word, its checks in order and its effect. -/
def Obligations.SendLrResult : Prop :=
  ∀ s : State,
    CommandWord 0x01 .sendLr s ∧
    (s.linkOpen = false → exec .sendLr s = .next (refusedState .linkClosed s)) ∧
    (s.linkOpen = true → (s.txLen.toNat = 0 ∨ s.params.maxpkt < s.txLen.toNat) →
      exec .sendLr s = .next (refusedState .badLength s)) ∧
    (s.linkOpen = true → 1 ≤ s.txLen.toNat → s.txLen.toNat ≤ s.params.maxpkt → s.txq.length = s.params.txqDepth →
      exec .sendLr s = .next (refusedState .queueFull s)) ∧
    (s.linkOpen = true → 1 ≤ s.txLen.toNat → s.txLen.toNat ≤ s.params.maxpkt → s.txq.length ≠ s.params.txqDepth →
      exec .sendLr s = .next { s with
        txSeq := 0, cmdErr := .ok,
        txq := s.txq ++ [{ kind := .lr, seq := 0, payload := (List.range s.txLen.toNat).map (txBufOctet s) }] })

/-- 46_host_commands.md R314: SEND_LD, its word, its checks in order and its effect. -/
def Obligations.SendLdResult : Prop :=
  ∀ s : State,
    CommandWord 0x02 .sendLd s ∧
    (s.linkOpen = false → exec .sendLd s = .next (refusedState .linkClosed s)) ∧
    (s.linkOpen = true → (s.txLen.toNat = 0 ∨ s.params.maxpkt < s.txLen.toNat) →
      exec .sendLd s = .next (refusedState .badLength s)) ∧
    (s.linkOpen = true → 1 ≤ s.txLen.toNat → s.txLen.toNat ≤ s.params.maxpkt → s.txq.length = s.params.txqDepth →
      exec .sendLd s = .next (refusedState .queueFull s)) ∧
    (s.linkOpen = true → 1 ≤ s.txLen.toNat → s.txLen.toNat ≤ s.params.maxpkt → s.txq.length ≠ s.params.txqDepth →
      exec .sendLd s = .next { s with
        cmdErr := .ok,
        txq := s.txq ++ [{ kind := .ld, seq := 0, payload := (List.range s.txLen.toNat).map (txBufOctet s) }] })

/-- 46_host_commands.md R315: SEND_LT, its word, its checks in order and its effect; the LT carries the next
sequence. -/
def Obligations.SendLtResult : Prop :=
  ∀ s : State,
    CommandWord 0x04 .sendLt s ∧
    (s.linkOpen = false → exec .sendLt s = .next (refusedState .linkClosed s)) ∧
    (s.linkOpen = true → (s.txLen.toNat = 0 ∨ s.cfgMaxinfo.toNat < s.txLen.toNat) →
      exec .sendLt s = .next (refusedState .badLength s)) ∧
    (s.linkOpen = true → 1 ≤ s.txLen.toNat → s.txLen.toNat ≤ s.cfgMaxinfo.toNat → s.txq.length = s.params.txqDepth →
      exec .sendLt s = .next (refusedState .queueFull s)) ∧
    (s.linkOpen = true → 1 ≤ s.txLen.toNat → s.txLen.toNat ≤ s.cfgMaxinfo.toNat → s.txq.length ≠ s.params.txqDepth →
      exec .sendLt s = .next { s with
        txSeq := BitVec.ofNat 8 (s.txSeq.toNat + 1), cmdErr := .ok,
        txq := s.txq ++ [{
          kind := .lt, seq := BitVec.ofNat 8 (s.txSeq.toNat + 1),
          payload := buildLt s.params.lenMode (BitVec.ofNat 8 (s.txSeq.toNat + 1))
            ((List.range s.txLen.toNat).map (txBufOctet s)) }] })

/-- 46_host_commands.md R316: SEND_LA, its words, its checks in order and its effect, with and without data. -/
def Obligations.SendLaResult : Prop :=
  ∀ (s : State) (a b : Octet) (d : Bool),
    (∀ w : Word, w.toNat % 256 = 0x05 →
      (w.toNat / 2 ^ 25 ≠ 0 → cmdWrite w s = .next (refusedState .reservedBits s)) ∧
      (w.toNat / 2 ^ 25 = 0 → w.toNat / 2 ^ 8 % 256 = a.toNat → w.toNat / 2 ^ 16 % 256 = b.toNat →
        w.toNat / 2 ^ 24 % 2 = d.toNat → cmdWrite w s = exec (.sendLa a b d) s)) ∧
    (s.linkOpen = false → exec (.sendLa a b d) s = .next (refusedState .linkClosed s)) ∧
    (s.linkOpen = true → d = true → s.params.maxpkt - 7 < s.txLen.toNat →
      exec (.sendLa a b d) s = .next (refusedState .badLength s)) ∧
    (s.linkOpen = true → (d = false ∨ s.txLen.toNat ≤ s.params.maxpkt - 7) → s.txq.length = s.params.txqDepth →
      exec (.sendLa a b d) s = .next (refusedState .queueFull s)) ∧
    (s.linkOpen = true → (d = false ∨ s.txLen.toNat ≤ s.params.maxpkt - 7) → s.txq.length ≠ s.params.txqDepth →
      exec (.sendLa a b d) s = .next { s with
        cmdErr := .ok,
        txq := s.txq ++ [{
          kind := .la, seq := 0,
          payload := buildLa s.params.lenMode a b
            (if d then (List.range s.txLen.toNat).map (txBufOctet s) else []) }] })

/-- 46_host_commands.md R317: CLOSE closes an open link with cause HOST and does nothing to a closed one. -/
def Obligations.CloseCommandResult : Prop :=
  ∀ s : State,
    CommandWord 0x08 .closeLink s ∧
    (s.linkOpen = true → exec .closeLink s = .next { closedState .host 0x10 s with cmdErr := .ok }) ∧
    (s.linkOpen = false → exec .closeLink s = .next { s with cmdErr := .ok })

/-- 46_host_commands.md R318: OPEN starts a new session; configuration, interrupt registers, TX staging and counters stay. That
`needs_ack` is reset with the pending record is 70_reset_and_hazards.md R383 with 10_state.md R34. -/
def Obligations.OpenCommandResult : Prop :=
  ∀ s : State,
    CommandWord 0x09 .openLink s ∧
    (s.linkOpen = true → exec .openLink s = .next (refusedState .alreadyOpen s)) ∧
    (s.linkOpen = false → exec .openLink s = .next { s with
      txSeq := 0, rxLast := 0, lastAckSeq := 0, lastCredit := 0, laSeen := false, txq := [], rxq := [],
      pendingValid := false, pendingKind := none, pendingSeq := 0, needsAck := false, pendPayload := [], attempts := 0,
      ackMatch := false, timer := 0, stArb := .idle, stTxf := .idle, txWire := [], txIdx := 0,
      rxAcc := [], rxCrc := 0, fcsLo := 0, stRxd := .hunt0,
      eosSeen := false, closeCause := none, linkOpen := true, cmdErr := .ok })

/-- 46_host_commands.md R319: RX_RELEASE removes the head of RXQ. -/
def Obligations.RxReleaseResult : Prop :=
  ∀ s : State,
    CommandWord 0x0A .rxRelease s ∧
    (s.rxq = [] → exec .rxRelease s = .next (refusedState .rxqEmpty s)) ∧
    (∀ e rest, s.rxq = e :: rest → exec .rxRelease s = .next { s with rxq := rest, cmdErr := .ok })

/-- 46_host_commands.md R311: every CMD write leaves its code in CMD_ERR_CODE; one that is refused sets CMD_ERR and changes
nothing else; one that is not refused leaves CMD_ERR as it was. -/
def Obligations.RefusedCommandChangesNothingElse : Prop :=
  ∀ (w : Word) (s : State), ∃ t, cmdWrite w s = .next t ∧
    ((t.cmdErr = .ok ∧ t.irqStatus.getLsbD 7 = s.irqStatus.getLsbD 7) ∨
      (t.cmdErr ≠ .ok ∧ t = refusedState t.cmdErr s))

/-- From any TX_SEQ q, n accepted SEND_LT commands leave TX_SEQ at q + n mod 256, and the LTs queued carry q + 1 to q + n
mod 256 in queue order, through the wrap: 44_sequencer.md R243, the spec's own inference from R241 and R242, is the case
q = 0. -/
def Obligations.SendLtNumbersConsecutively : Prop :=
  ∀ (n : Nat) (s : State) (sch : List Event), s.linkOpen = true →
    1 ≤ s.txLen.toNat → s.txLen.toNat ≤ s.cfgMaxinfo.toNat → s.txq.length + n ≤ s.params.txqDepth →
    s.schedule = cmdWrites n 0x00000004 ++ sch →
    ∃ t, Host.Core.run Sys2Proof.core n s = .next t ∧ t.txSeq = BitVec.ofNat 8 (s.txSeq.toNat + n) ∧
      t.txq.map TxEntry.seq =
        s.txq.map TxEntry.seq ++ (List.range n).map (fun k => BitVec.ofNat 8 (s.txSeq.toNat + k + 1))

/-! ## The retransmission arbiter, TXF and the timer -/

/-- 45_retransmission.md R271: ARB takes the head of TXQ. -/
def Obligations.ArbPopsHeadOfQueue : Prop :=
  ∀ (s : State) (e : TxEntry) (rest : List TxEntry),
    s.linkOpen = true → s.stArb = .idle → s.txq = e :: rest →
    arbStep s = { s with
      txq := rest, pendingValid := true, pendingKind := some e.kind, pendingSeq := e.seq, pendPayload := e.payload,
      needsAck := decide (e.kind = .lr ∨ e.kind = .lt), attempts := 0, ackMatch := false, stArb := .hold }

/-- 45_retransmission.md R273, 41_frame_encoder.md R161: an attempt starts. -/
def Obligations.AttemptStartsFromHold : Prop :=
  ∀ s : State, s.linkOpen = true → s.stArb = .hold → s.ackMatch = false → s.sendAllowed = true → s.stTxf = .idle →
    arbStep s = { s with
      attempts := s.attempts + 1, txWire := encodeFrame s.params.crcVariant s.pendPayload, txIdx := 0, stTxf := .busy,
      irqStatus := s.irqStatus ||| 0x02#8, stArb := .sending }

/-- 45_retransmission.md R274, R277, R280: the end of a frame sets TX_SENT and completes the packet or enters WAIT with the
timer loaded. -/
def Obligations.EndOfFrameCompletesOrWaits : Prop :=
  ∀ s : State, s.linkOpen = true → s.stArb = .sending → s.stTxf = .idle →
    (s.needsAck = false → arbStep s = { s with
      pendingValid := false, pendingKind := none, pendingSeq := 0, attempts := 0, pendPayload := [], stArb := .idle,
      irqStatus := s.irqStatus ||| 0x04#8 }) ∧
    (s.needsAck = true → s.ackMatch = true → arbStep s = ackedState 0x0C s) ∧
    (s.needsAck = true → s.ackMatch = false → arbStep s = { s with
      timer := s.cfgTimeout, stArb := .wait, irqStatus := s.irqStatus ||| 0x04#8 })

/-- 45_retransmission.md R272, R278, R279, R282, R283, R284, R287, 60_exceptions.md R353: an acknowledgement completes the
packet from HOLD and from WAIT, whatever the timer and `send_allowed` say; without one, sending disallowed or an expired timer
is a failed attempt, which resends the packet, or closes the link with TimeoutError when the budget is spent. -/
def Obligations.AttemptIsAcknowledgedOrFails : Prop :=
  ∀ s : State, s.linkOpen = true →
    ((s.stArb = .hold ∨ s.stArb = .wait) → s.ackMatch = true → arbStep s = ackedState 0x08 s) ∧
    (s.stArb = .wait → s.ackMatch = false → (s.sendAllowed = false ∨ s.timer = 0) →
      (s.attempts.toNat < s.cfgRetry.toNat → arbStep s = { s with timer := 0, stArb := .hold }) ∧
      (s.cfgRetry.toNat ≤ s.attempts.toNat → arbStep s = closedState .timeout 0x30 s))

/-- Where ARB, TXF or RXD has no step (45_retransmission.md R270, R275, 41_frame_encoder.md R163, 42_frame_decoder.md R180)
its turn changes nothing: that such a turn passes is the model's choice (notes/assumptions/1.md). -/
def Obligations.DisabledAgentsHoldState : Prop :=
  ∀ s : State,
    ((s.linkOpen = false ∨ (s.stArb = .idle ∧ s.txq = []) ∨
      (s.stArb = .hold ∧ s.ackMatch = false ∧ (s.sendAllowed = false ∨ s.stTxf = .busy)) ∨
      (s.stArb = .sending ∧ s.stTxf = .busy) ∨
      (s.stArb = .wait ∧ s.ackMatch = false ∧ s.sendAllowed = true ∧ s.timer ≠ 0)) →
      arbStep s = s) ∧
    (s.txReady = false ∨ s.stTxf = .idle → txfStep s = .next s) ∧
    (s.linkOpen = false ∨ s.rxIn = [] → rxdStep s = .next s)

/-- 45_retransmission.md R281: one tick. -/
def Obligations.TickDecrementsTimerInWait : Prop :=
  ∀ s : State,
    (s.stArb = .wait → 0 < s.timer.toNat →
      ∃ t, tmrTick s = { s with timer := t } ∧ t.toNat = s.timer.toNat - 1) ∧
    (s.stArb ≠ .wait ∨ s.timer.toNat = 0 → tmrTick s = s)

/-- 45_retransmission.md R285, R286: the close sequence for every cause, and a second close. -/
def Obligations.CloseSequenceIsIdempotent : Prop :=
  ∀ s : State,
    (s.linkOpen = true →
      closeLinkWith .host s = closedState .host 0x10 s ∧
      closeLinkWith .timeout s = closedState .timeout 0x30 s ∧
      closeLinkWith .eos s = closedState .eos 0x50 s) ∧
    (∀ c, s.linkOpen = false → closeLinkWith c s = s) ∧
    (∀ c d, closeLinkWith d (closeLinkWith c s) = closeLinkWith c s)

/-- 41_frame_encoder.md R161, R162: from the start of an attempt, TXF emits exactly the encoded payload, one octet a step,
and ends IDLE. -/
def Obligations.TxfEmitsEncodedFrame : Prop :=
  ∀ (s : State) (p : List Octet) (sch : List Event), s.txReady = true →
    s.schedule = List.replicate (encodeFrame s.params.crcVariant p).length .txf ++ sch →
    Host.Core.run Sys2Proof.core (encodeFrame s.params.crcVariant p).length (txfStart p s) =
      .next { s with
        schedule := sch, txOut := s.txOut ++ encodeFrame s.params.crcVariant p,
        stTxf := .idle, txWire := [], txIdx := 0 }

/-- On the schedule where every attempt runs to its timeout: with a retry budget of R and no acknowledgement the pending
packet's frame is emitted exactly R times and TimeoutError closes the link (45_retransmission.md R276; R288 is the spec's own
inference from R273, R274, R283, R284). -/
def Obligations.RetryBudgetExhaustionClosesLink : Prop :=
  ∀ (s : State) (sch : List Event),
    s.linkOpen = true → s.stArb = .hold → s.attempts = 0 → s.needsAck = true → s.ackMatch = false →
    s.sendAllowed = true → s.txReady = true → s.stTxf = .idle → 1 ≤ s.cfgRetry.toNat →
    s.schedule = (List.replicate s.cfgRetry.toNat
      (attemptEvents (encodeFrame s.params.crcVariant s.pendPayload).length s.cfgTimeout.toNat)).flatten ++ sch →
    ∃ t, Host.Core.run Sys2Proof.core
        (s.cfgRetry.toNat *
          ((encodeFrame s.params.crcVariant s.pendPayload).length + s.cfgTimeout.toNat + 3)) s = .next t ∧
      t.txOut = s.txOut ++
        (List.replicate s.cfgRetry.toNat (encodeFrame s.params.crcVariant s.pendPayload)).flatten ∧
      t.linkOpen = false ∧ t.closeCause = some .timeout ∧ t.stArb = .idle ∧ t.pendingValid = false ∧
      t.irqStatus = s.irqStatus ||| 0x36#8 ∧ t.schedule = sch

/-! ## The host register space -/

/-- 10_state.md R22 to R40: what the host reads of every register in every state (those of the queues are
`ReceiveWindowShowsHead`), with the numbers of R45, R47, R49, R50 and R33 written out; PENDING_KIND reads 0x00 when nothing
is pending, in the states the invariant allows; and the `irq` level of R29. -/
def Obligations.StatusAndStateFieldPositions : Prop :=
  ∀ (s : State) (w q a b : Word), w = memRead s 0x008 → q = memRead s 0x024 → a = memRead s 0x028 → b = memRead s 0x02C →
    w.getLsbD 0 = s.linkOpen ∧ (w.getLsbD 1 = true ↔ s.txq = [] ∧ s.stArb = .idle) ∧
    (w.getLsbD 2 = true ↔ s.txq.length = s.params.txqDepth) ∧ (w.getLsbD 3 = true ↔ s.rxq ≠ []) ∧
    (w.getLsbD 4 = true ↔ s.rxq.length = s.params.rxqDepth) ∧ w.getLsbD 5 = s.sendAllowed ∧ w.getLsbD 6 = s.eosSeen ∧
    (w.getLsbD 7 = true ↔ s.stTxf = .busy) ∧
    w.extractLsb' 8 3 =
      (match s.stRxd with
        | .hunt0 => 0 | .hunt1 => 1 | .hunt2 => 2 | .data => 3 | .esc => 4 | .fcs1 => 5 | .fcs2 => 6) ∧
    w.getLsbD 11 = false ∧
    w.extractLsb' 12 3 =
      (match s.closeCause with | none => 0 | some .host => 1 | some .timeout => 2 | some .eos => 3) ∧
    w.extractLsb' 15 9 = 0#9 ∧
    w.extractLsb' 24 8 =
      (match s.cmdErr with
        | .ok => 0x00 | .illegalOpcode => 0x01 | .reservedBits => 0x02 | .linkClosed => 0x03 | .badLength => 0x04
        | .queueFull => 0x05 | .alreadyOpen => 0x06 | .rxqEmpty => 0x07) ∧
    q.extractLsb' 0 8 = s.txSeq ∧ q.extractLsb' 8 8 = s.rxLast ∧ q.extractLsb' 16 16 = 0#16 ∧
    a.extractLsb' 0 8 = s.lastAckSeq ∧ a.extractLsb' 8 8 = s.lastCredit ∧ a.getLsbD 16 = s.laSeen ∧
    a.extractLsb' 17 15 = 0#15 ∧
    b.extractLsb' 0 2 = (match s.stArb with | .idle => 0 | .hold => 1 | .sending => 2 | .wait => 3) ∧
    b.getLsbD 2 = s.ackMatch ∧ b.getLsbD 3 = s.pendingValid ∧ b.extractLsb' 4 4 = 0#4 ∧
    b.extractLsb' 8 8 = s.attempts ∧ b.extractLsb' 16 8 = s.pendingSeq ∧
    b.extractLsb' 24 8 =
      (match s.pendingKind with
        | none => 0x00 | some .lr => 0x01 | some .ld => 0x02 | some .lt => 0x04 | some .la => 0x05) ∧
    (s.Inv → s.pendingValid = false → b.extractLsb' 24 8 = 0x00) ∧
    memRead s 0x000 = 0x4D4E5001 ∧
    (memRead s 0x00C).toNat = s.irqStatus.toNat ∧ (memRead s 0x010).toNat = s.irqEnable.toNat ∧
    memRead s 0x014 = s.cfgTimeout ∧ (memRead s 0x018).toNat = s.cfgRetry.toNat ∧
    (memRead s 0x01C).toNat = s.cfgMaxinfo.toNat ∧ (memRead s 0x020).toNat = s.txLen.toNat ∧
    memRead s 0x030 = s.timer ∧ (memRead s 0x040).toNat = s.cntFrameErr.toNat ∧
    (memRead s 0x044).toNat = s.cntSeqDrop.toNat ∧ (memRead s 0x048).toNat = s.cntRxOverflow.toNat ∧
    (irqLevel s = true ↔ ∃ i, i < 8 ∧ s.irqStatus.getLsbD i = true ∧ s.irqEnable.getLsbD i = true)

/-- 10_state.md R36 to R38, R42: what the host reads of the queues and of the packet at the head of RXQ, when they hold what
the invariant allows. -/
def Obligations.ReceiveWindowShowsHead : Prop :=
  ∀ s : State, s.Inv →
    ((memRead s 0x034).extractLsb' 0 8).toNat = s.txq.length ∧
    ((memRead s 0x034).extractLsb' 8 8).toNat = s.rxq.length ∧ (memRead s 0x034).extractLsb' 16 16 = 0#16 ∧
    (s.rxq = [] → memRead s 0x038 = 0 ∧ memRead s 0x03C = 0 ∧
      ∀ addr : Offset, 0x2000 ≤ addr.toNat → memRead s addr = 0) ∧
    (∀ e rest, s.rxq = e :: rest →
      ((memRead s 0x038).extractLsb' 0 16).toNat = e.payload.length ∧
      (memRead s 0x038).extractLsb' 16 8 =
        (match e.kind with | .other => 0x00 | .lr => 0x01 | .ld => 0x02 | .lt => 0x04 | .la => 0x05) ∧
      (memRead s 0x038).extractLsb' 24 7 = 0#7 ∧
      (memRead s 0x038).getLsbD 31 = true ∧
      (memRead s 0x03C).extractLsb' 0 8 = e.seq ∧ (memRead s 0x03C).extractLsb' 8 8 = e.credit ∧
      (memRead s 0x03C).extractLsb' 16 16 = 0#16 ∧
      ∀ k, k < 0x1000 →
        (memRead s (BitVec.ofNat 14 (0x2000 + k))).extractLsb' (8 * (k % 4)) 8 = e.payload.getD k 0)

/-- 46_host_commands.md R322: a write to each register other than CMD, for legal parameters, at any of the four offsets of
the register's word (20_memory.md R70). -/
def Obligations.RegisterWriteResults : Prop :=
  ∀ (s : State) (v : Word) (addr : Offset), s.params.wf = true →
    (addr.toNat / 4 = 3 → memWrite addr v s = .next { s with irqStatus := s.irqStatus &&& ~~~(v.extractLsb' 0 8) }) ∧
    (addr.toNat / 4 = 4 → memWrite addr v s = .next { s with irqEnable := v.extractLsb' 0 8 }) ∧
    (addr.toNat / 4 = 5 → memWrite addr v s = .next { s with cfgTimeout := v }) ∧
    (addr.toNat / 4 = 6 → ∃ r, memWrite addr v s = .next { s with cfgRetry := r } ∧
      r.toNat = if v.toNat % 256 = 0 then 1 else v.toNat % 256) ∧
    (addr.toNat / 4 = 7 → ∃ m, memWrite addr v s = .next { s with cfgMaxinfo := m } ∧
      m.toNat = min (max (v.toNat % 65536) 1) (s.params.maxpkt - 5)) ∧
    (addr.toNat / 4 = 8 → memWrite addr v s = .next { s with txLen := v.extractLsb' 0 16 })

/-- 20_memory.md R73, R86: a word written to TX_BUF, at any of the four offsets of its word (R70), reads back, every other
word of the register space reads as before, and nothing but TX_BUF changes (no packet already queued, pending or being
sent). -/
def Obligations.TxBufWordReadsBack : Prop :=
  ∀ (s : State) (k : Nat) (addr : Offset) (v : Word), s.params.wf = true → 4 * k < s.params.maxpkt →
    addr.toNat / 4 = 0x400 + k →
    ∃ m, memWrite addr v s = .next { s with txBuf := m } ∧
      (∀ i, i < 4 → txBufOctet { s with txBuf := m } (4 * k + i) = v.extractLsb' (8 * i) 8) ∧
      (∀ j, j / 4 ≠ k → txBufOctet { s with txBuf := m } j = txBufOctet s j) ∧
      (∀ a : Offset, a.toNat / 4 = 0x400 + k → memRead { s with txBuf := m } a = v) ∧
      ∀ a : Offset, a.toNat / 4 ≠ 0x400 + k → memRead { s with txBuf := m } a = memRead s a

/-- 20_memory.md R74: reserved offsets and CMD read 0; writes to reserved offsets and to RO registers have no effect. -/
def Obligations.ReservedAndReadOnlyOffsets : Prop :=
  ∀ (s : State) (addr : Offset) (v : Word), s.params.wf = true →
    ((0x04C ≤ addr.toNat ∧ addr.toNat < 0x1000) ∨ (0x1000 + s.params.maxpkt ≤ addr.toNat ∧ addr.toNat < 0x2000) ∨
      0x2000 + s.params.maxpkt ≤ addr.toNat → memRead s addr = 0 ∧ memWrite addr v s = .next s) ∧
    (4 ≤ addr.toNat ∧ addr.toNat < 8 → memRead s addr = 0) ∧
    (addr.toNat < 4 ∨ (0x008 ≤ addr.toNat ∧ addr.toNat < 0x00C) ∨ (0x024 ≤ addr.toNat ∧ addr.toNat < 0x04C) ∨
      (0x2000 ≤ addr.toNat ∧ addr.toNat < 0x2000 + s.params.maxpkt) → memWrite addr v s = .next s)

/-- 20_memory.md R70, R78: a host read changes nothing but the word on `rdata`, and ignores offset bits [1:0]. That `rdata`
keeps the word is the model's choice (notes/assumptions/4.md). -/
def Obligations.ReadsHaveNoSideEffects : Prop :=
  ∀ (s : State) (addr : Offset) (sch : List Event), s.schedule = .host (.read addr) :: sch →
    step s = .next { s with schedule := sch, rdata := memRead s (BitVec.ofNat 14 (addr.toNat / 4 * 4)) }

/-! ## Whole-machine rules -/

/-- A step runs the decoded instruction: a write of a word that decodes to `i`, at any of the four offsets of CMD's word
(20_memory.md R70), is `exec i`, and RXD's last trailer octet of a good frame whose payload decodes to `i` is `exec i`
followed by RXD's return to HUNT0 (46_host_commands.md R310, 42_frame_decoder.md R190). That for a non-default CRC variant
the frame is good when the finished running CRC is the trailer is the model's deduction (notes/assumptions/9.md). -/
def Obligations.StepRunsDecodedInstruction : Prop :=
  (∀ (s : State) (addr : Offset) (w : Word) (i : Instr) (sch : List Event),
    s.schedule = .host (.write addr w) :: sch → addr.toNat / 4 = 1 → decode (.cmd w) = .ok i →
    step s = exec i { s with schedule := sch }) ∧
  (∀ (s : State) (o : Octet) (i : Instr) (rest : List RxInput) (sch : List Event),
    s.schedule = .rxd :: sch → s.linkOpen = true → s.rxIn = .octet o :: rest → s.stRxd = .fcs2 →
    crcFinish s.params.crcVariant s.rxCrc = o ++ s.fcsLo → decode (.pkt s.rxAcc) = .ok i →
    ∃ t, exec i { s with schedule := sch, rxIn := rest } = .next t ∧
      step s = .next { t with rxAcc := [], rxCrc := 0, fcsLo := 0, stRxd := .hunt0 })

/-- 10_state.md R62: every element after reset, for every parameter choice and both levels of `send_allowed`; the registers
as the host reads them (95_test_vectors.md section 2.8), then the elements the host does not read. -/
def Obligations.ResetRegisterValues : Prop :=
  ∀ p : Params, p.wf = true →
    memRead (State.resetWith p) 0x000 = 0x4D4E5001 ∧
    (∀ b, memRead { State.resetWith p with sendAllowed := b } 0x008 = if b then 0x00000022 else 0x00000002) ∧
    memRead (State.resetWith p) 0x00C = 0 ∧ memRead (State.resetWith p) 0x010 = 0 ∧
    memRead (State.resetWith p) 0x014 = p.tAck ∧ memRead (State.resetWith p) 0x018 = 5 ∧
    memRead (State.resetWith p) 0x01C = 256 ∧
    (∀ addr : Offset, 0x020 ≤ addr.toNat → addr.toNat < 0x1000 ∨ 0x1000 + p.maxpkt ≤ addr.toNat →
      memRead (State.resetWith p) addr = 0) ∧
    irqLevel (State.resetWith p) = false ∧ linkClosed (State.resetWith p) = true ∧
    (State.resetWith p).txq = [] ∧ (State.resetWith p).rxq = [] ∧ (State.resetWith p).pendPayload = [] ∧
    (State.resetWith p).needsAck = false ∧ (State.resetWith p).stRxd = .hunt0 ∧ (State.resetWith p).rxAcc = [] ∧
    (State.resetWith p).rxCrc = 0 ∧ (State.resetWith p).fcsLo = 0 ∧ (State.resetWith p).stTxf = .idle ∧
    (State.resetWith p).txWire = [] ∧ (State.resetWith p).txIdx = 0 ∧ (State.resetWith p).stArb = .idle

/-- 70_reset_and_hazards.md R380: `rst` sets every register to its reset value in one step. What stays (the inputs, the
streams, `rdata`, the schedule) is the model's choice (notes/assumptions/12.md). -/
def Obligations.RstEventResetsEveryRegister : Prop :=
  ∀ (s : State) (sch : List Event), s.schedule = .rst :: sch →
    step s = .next { State.resetWith s.params with
      sendAllowed := s.sendAllowed, txReady := s.txReady, rdata := s.rdata, rxIn := s.rxIn, txOut := s.txOut,
      schedule := sch, draws := s.draws + 1 }

/-- The invariant holds at reset, for every legal parameter choice. -/
def Obligations.InvariantHoldsAtReset : Prop :=
  State.reset.Inv ∧ ∀ p : Params, p.wf = true → (State.resetWith p).Inv

/-- Every step keeps the invariant. -/
def Obligations.StepKeepsInvariant : Prop :=
  ∀ s t : State, s.Inv → Sys2Proof.Machine.step s = .next t → t.Inv

/-- No step stops a machine that satisfies the invariant (20_memory.md R76, 60_exceptions.md R350, R360: every access and
every error has a next state). -/
def Obligations.StepAlwaysCompletes : Prop :=
  ∀ s : State, s.Inv → ∃ t, step s = .next t

/-- 60_exceptions.md R357, R358: an interrupt bit, once set, stays set over every step but a host write of 1 to it, at any
offset of IRQ_STATUS's word, or reset. -/
def Obligations.InterruptBitsAreSticky : Prop :=
  ∀ (s t : State) (e : Event) (sch : List Event) (i : Nat), s.schedule = e :: sch → step s = .next t → e ≠ .rst →
    (∀ addr v, e = .host (.write addr v) → addr.toNat / 4 = 3 → v.getLsbD i = false) →
    s.irqStatus.getLsbD i = true → t.irqStatus.getLsbD i = true

/-- 10_state.md R44: RXQ only grows at its tail, but for RX_RELEASE, OPEN and reset. -/
def Obligations.ReceiveQueueOnlyReleasedByHost : Prop :=
  ∀ (s t : State) (e : Event) (sch : List Event), s.schedule = e :: sch → step s = .next t → e ≠ .rst →
    (∀ addr w, e = .host (.write addr w) → addr.toNat / 4 = 1 → w ≠ 0x00000009 ∧ w ≠ 0x0000000A) →
    t.rxq = s.rxq ∨ ∃ x, t.rxq = s.rxq ++ [x]

/-- 10_state.md R31, 44_sequencer.md R240: TX_SEQ changes only by a CMD write of SEND_LR, SEND_LT or OPEN and by reset;
RX_LAST only by RXD, OPEN and reset. -/
def Obligations.SequenceCountersHaveFewWriters : Prop :=
  ∀ (s t : State) (e : Event) (sch : List Event), s.schedule = e :: sch → step s = .next t → e ≠ .rst →
    ((∀ addr w, e = .host (.write addr w) → addr.toNat / 4 = 1 → w ≠ 0x00000001 ∧ w ≠ 0x00000004 ∧ w ≠ 0x00000009) →
      t.txSeq = s.txSeq) ∧
    (e ≠ .rxd → (∀ addr w, e = .host (.write addr w) → addr.toNat / 4 = 1 → w ≠ 0x00000009) → t.rxLast = s.rxLast)

/-- 10_state.md R48: once set, ACK_MATCH stays set until the pending packet completes, the link closes or reset. -/
def Obligations.AckMatchNeverWithdrawn : Prop :=
  ∀ (s t : State) (e : Event) (sch : List Event), s.Inv → s.schedule = e :: sch → step s = .next t → e ≠ .rst →
    s.ackMatch = true → t.ackMatch = true ∨ t.pendingValid = false

/-- 00_scope.md R9, 20_memory.md R71, R83: the parameters never change; the transmit stream grows by at most one octet a
step, only on TXF's turn. That the stream and the parameters are held in State is the model's choice
(notes/assumptions/5.md, 8.md). Reset is among the steps: that the octets already emitted and the parameters stay over `rst`
is the model's choice too (notes/assumptions/12.md), not a rule of the spec. -/
def Obligations.TransmitStreamOnlyGrows : Prop :=
  ∀ s t : State, step s = .next t →
    t.params = s.params ∧ (t.txOut = s.txOut ∨ ∃ o sch, s.schedule = .txf :: sch ∧ t.txOut = s.txOut ++ [o])

/-- 45_retransmission.md R270, R285, 42_frame_decoder.md R180: a closed link stays closed, with nothing emitted, no attempt
and no offered input taken, until the host writes OPEN to CMD; an input offered meanwhile waits behind those before it (the
stream `rxIn` that holds them is the model's, notes/assumptions/3.md). Reset is among the steps: that the input not yet taken
and the octets already emitted stay over `rst` is the model's choice (notes/assumptions/12.md), not a rule of the spec. -/
def Obligations.OnlyOpenLeavesClosedLink : Prop :=
  ∀ (s t : State) (e : Event) (sch : List Event), s.Inv → s.linkOpen = false → s.schedule = e :: sch →
    step s = .next t → (∀ addr w, e = .host (.write addr w) → addr.toNat / 4 = 1 → w ≠ 0x00000009) →
    t.linkOpen = false ∧ t.txOut = s.txOut ∧ t.stArb = .idle ∧ (t.rxIn = s.rxIn ∨ ∃ x, e = .offer x ∧ t.rxIn = s.rxIn ++ [x])
end

