-- ==== Sys2Proof/Laws/Invariant.lean ====
section
/-! SUPPORT. The invariant says nothing about the model's own streams, the schedule and the inputs. -/

namespace Sys2Proof.Machine

/-- Updates of fields that the invariant does not read keep it. -/
theorem State.Inv.of_environment {s : State} (h : s.Inv) (rx : List RxInput) (out : List Octet) (sch : List Event)
    (data : Word) (ready allowed : Bool) :
    ({ s with
        rxIn := rx, txOut := out, schedule := sch, rdata := data, txReady := ready, sendAllowed := allowed } : State).Inv where
  config := ⟨h.config.params_wf, h.config.retry_pos, h.config.maxinfo_pos, h.config.maxinfo_le⟩
  memory := ⟨h.memory.canonical, h.memory.bounded⟩
  queues := ⟨h.queues.txq_le, h.queues.rxq_le, h.queues.txq_payload, h.queues.txq_seq, h.queues.rxq_payload⟩
  rxd := ⟨h.rxd.acc_le, h.rxd.hunting, h.rxd.payload, h.rxd.trailer, h.rxd.fcs_lo⟩
  txf := ⟨h.txf.idle, h.txf.busy⟩
  arb := ⟨h.arb.valid_iff, h.arb.nothing, h.arb.kind, h.arb.payload_le, h.arb.timer, h.arb.hold_attempts, h.arb.begun,
    h.arb.wait_needs, h.arb.once, h.arb.matched⟩
  link := ⟨h.link.closed, h.link.opened, h.link.eos_iff, h.link.no_la⟩

end Sys2Proof.Machine
end

