-- ==== Sys2Proof/Laws/Memory.lean ====
section
/-! SUPPORT. The laws of TX_BUF's storage: read after write, and the canonical form that every operation keeps. -/

namespace Sys2Proof.Machine

@[simp] theorem Memory.read_write_same (m : List Host.Cell) (a : Nat) (v : Octet) :
    Memory.read (Memory.write m a v) a = some v := by
  induction m with
  | nil => simp [Memory.write, Memory.read]
  | cons c m ih =>
    simp only [Memory.write]
    split_ifs with h₁ h₂
    · simp [Memory.read]
    · simp [Memory.read]
    · simp [Memory.read, Ne.symm h₂, ih]

theorem Memory.read_write_of_ne (m : List Host.Cell) {a b : Nat} (v : Octet) (h : b ≠ a) :
    Memory.read (Memory.write m a v) b = Memory.read m b := by
  induction m with
  | nil => simp [Memory.write, Memory.read, Ne.symm h]
  | cons c m ih =>
    simp only [Memory.write]
    split_ifs with h₁ h₂
    · simp [Memory.read, Ne.symm h]
    · simp [Memory.read, ← h₂, Ne.symm h]
    · simp [Memory.read, ih]

/-- The canonical form read off its head. -/
theorem Memory.wf_cons (c : Host.Cell) (m : List Host.Cell) :
    Memory.wf (c :: m) = true ↔ (∀ d ∈ m, c.1 < d.1) ∧ Memory.wf m = true := by
  induction m generalizing c with
  | nil => simp [Memory.wf]
  | cons d m ih =>
    simp only [Memory.wf, Bool.and_eq_true, decide_eq_true_eq]
    constructor
    · rintro ⟨hcd, hm⟩
      refine ⟨fun e he => ?_, hm⟩
      rcases List.mem_cons.1 he with rfl | he
      · exact hcd
      · exact hcd.trans (((ih d).1 hm).1 e he)
    · rintro ⟨h, hm⟩
      exact ⟨h d (by simp), hm⟩

/-- A write lists its own index and nothing else new. -/
theorem Memory.mem_write {m : List Host.Cell} {a : Nat} {v : Octet} {c : Host.Cell} (h : c ∈ Memory.write m a v) :
    c = (a, v) ∨ c ∈ m := by
  induction m with
  | nil => exact .inl (by simpa [Memory.write] using h)
  | cons d m ih =>
    simp only [Memory.write] at h
    split_ifs at h with h₁ h₂
    · rcases List.mem_cons.1 h with rfl | h
      · exact .inl rfl
      · exact .inr h
    · rcases List.mem_cons.1 h with rfl | h
      · exact .inl rfl
      · exact .inr (List.mem_cons_of_mem _ h)
    · rcases List.mem_cons.1 h with rfl | h
      · exact .inr (by simp)
      · exact (ih h).imp id (List.mem_cons_of_mem _)

/-- A write keeps the canonical form. -/
theorem Memory.wf_write {m : List Host.Cell} (a : Nat) (v : Octet) (h : Memory.wf m = true) :
    Memory.wf (Memory.write m a v) = true := by
  induction m with
  | nil => rfl
  | cons c m ih =>
    obtain ⟨hc, hm⟩ := (Memory.wf_cons c m).1 h
    simp only [Memory.write]
    split_ifs with h₁ h₂
    · refine (Memory.wf_cons _ _).2 ⟨fun d hd => ?_, h⟩
      rcases List.mem_cons.1 hd with rfl | hd
      · exact h₁
      · exact h₁.trans (hc d hd)
    · subst h₂
      exact (Memory.wf_cons _ _).2 ⟨hc, hm⟩
    · refine (Memory.wf_cons _ _).2 ⟨fun d hd => ?_, ih hm⟩
      rcases Memory.mem_write hd with rfl | hd
      · exact Nat.lt_of_le_of_ne (Nat.le_of_not_lt h₁) (Ne.symm h₂)
      · exact hc d hd

/-- The reset state's TX_BUF lists nothing. -/
theorem Memory.wf_resetWith (p : Params) : Memory.wf (State.resetWith p).txBuf = true := rfl

/-- What storing one octet does to every octet of TX_BUF. -/
theorem txBufOctet_storeTxOctet (k j : Nat) (v : Octet) (s : State) :
    txBufOctet (storeTxOctet k v s) j = if k < s.params.maxpkt ∧ j = k then v else txBufOctet s j := by
  by_cases hk : k < s.params.maxpkt
  · by_cases hj : j = k
    · subst hj
      simp [storeTxOctet, hk, txBufOctet]
    · simp [storeTxOctet, hk, hj, txBufOctet, Memory.read_write_of_ne _ _ hj]
  · simp [storeTxOctet, hk]

@[simp] theorem storeTxOctet_params (k : Nat) (v : Octet) (s : State) : (storeTxOctet k v s).params = s.params := by
  unfold storeTxOctet; split <;> rfl

/-- Storing one octet changes TX_BUF and nothing else, and keeps its canonical form. -/
theorem storeTxOctet_spec (k : Nat) (v : Octet) (s : State) :
    ∃ m, storeTxOctet k v s = { s with txBuf := m } ∧ (Memory.wf s.txBuf = true → Memory.wf m = true) ∧
      ((∀ c ∈ s.txBuf, c.1 < s.params.maxpkt) → ∀ c ∈ m, c.1 < s.params.maxpkt) := by
  unfold storeTxOctet
  split_ifs with hk
  · refine ⟨_, rfl, Memory.wf_write k v, fun h c hc => ?_⟩
    rcases Memory.mem_write hc with rfl | hc
    · exact hk
    · exact h c hc
  · exact ⟨s.txBuf, rfl, id, id⟩

/-- A TX_BUF word write changes TX_BUF and nothing else, and keeps its canonical form. -/
theorem writeTxBufWord_spec (k : Nat) (v : Word) (s : State) :
    ∃ m, writeTxBufWord k v s = { s with txBuf := m } ∧ (Memory.wf s.txBuf = true → Memory.wf m = true) ∧
      ((∀ c ∈ s.txBuf, c.1 < s.params.maxpkt) → ∀ c ∈ m, c.1 < s.params.maxpkt) := by
  obtain ⟨m₀, h₀, w₀, b₀⟩ := storeTxOctet_spec k (octetOf v 0) s
  obtain ⟨m₁, h₁, w₁, b₁⟩ := storeTxOctet_spec (k + 1) (octetOf v 1) { s with txBuf := m₀ }
  obtain ⟨m₂, h₂, w₂, b₂⟩ := storeTxOctet_spec (k + 2) (octetOf v 2) { s with txBuf := m₁ }
  obtain ⟨m₃, h₃, w₃, b₃⟩ := storeTxOctet_spec (k + 3) (octetOf v 3) { s with txBuf := m₂ }
  refine ⟨m₃, ?_, w₃ ∘ w₂ ∘ w₁ ∘ w₀, b₃ ∘ b₂ ∘ b₁ ∘ b₀⟩
  unfold writeTxBufWord
  rw [h₀, h₁, h₂, h₃]

end Sys2Proof.Machine
end

