-- ==== Sys2Proof/Laws/State.lean ====
section
/-! SUPPORT. One lemma per field for each named update of State, so that no proof unfolds one. -/

namespace Sys2Proof.Machine

variable (s : State)

/-! ## irqSet -/

@[simp] theorem irqSet_params (b : IrqBit) : (irqSet b s).params = s.params := rfl
@[simp] theorem irqSet_linkOpen (b : IrqBit) : (irqSet b s).linkOpen = s.linkOpen := rfl
@[simp] theorem irqSet_eosSeen (b : IrqBit) : (irqSet b s).eosSeen = s.eosSeen := rfl
@[simp] theorem irqSet_closeCause (b : IrqBit) : (irqSet b s).closeCause = s.closeCause := rfl
@[simp] theorem irqSet_cmdErr (b : IrqBit) : (irqSet b s).cmdErr = s.cmdErr := rfl
@[simp] theorem irqSet_irqStatus (b : IrqBit) : (irqSet b s).irqStatus = s.irqStatus ||| b.mask := rfl
@[simp] theorem irqSet_irqEnable (b : IrqBit) : (irqSet b s).irqEnable = s.irqEnable := rfl
@[simp] theorem irqSet_cfgTimeout (b : IrqBit) : (irqSet b s).cfgTimeout = s.cfgTimeout := rfl
@[simp] theorem irqSet_cfgRetry (b : IrqBit) : (irqSet b s).cfgRetry = s.cfgRetry := rfl
@[simp] theorem irqSet_cfgMaxinfo (b : IrqBit) : (irqSet b s).cfgMaxinfo = s.cfgMaxinfo := rfl
@[simp] theorem irqSet_txLen (b : IrqBit) : (irqSet b s).txLen = s.txLen := rfl
@[simp] theorem irqSet_txSeq (b : IrqBit) : (irqSet b s).txSeq = s.txSeq := rfl
@[simp] theorem irqSet_rxLast (b : IrqBit) : (irqSet b s).rxLast = s.rxLast := rfl
@[simp] theorem irqSet_lastAckSeq (b : IrqBit) : (irqSet b s).lastAckSeq = s.lastAckSeq := rfl
@[simp] theorem irqSet_lastCredit (b : IrqBit) : (irqSet b s).lastCredit = s.lastCredit := rfl
@[simp] theorem irqSet_laSeen (b : IrqBit) : (irqSet b s).laSeen = s.laSeen := rfl
@[simp] theorem irqSet_pendingValid (b : IrqBit) : (irqSet b s).pendingValid = s.pendingValid := rfl
@[simp] theorem irqSet_pendingKind (b : IrqBit) : (irqSet b s).pendingKind = s.pendingKind := rfl
@[simp] theorem irqSet_pendingSeq (b : IrqBit) : (irqSet b s).pendingSeq = s.pendingSeq := rfl
@[simp] theorem irqSet_needsAck (b : IrqBit) : (irqSet b s).needsAck = s.needsAck := rfl
@[simp] theorem irqSet_pendPayload (b : IrqBit) : (irqSet b s).pendPayload = s.pendPayload := rfl
@[simp] theorem irqSet_attempts (b : IrqBit) : (irqSet b s).attempts = s.attempts := rfl
@[simp] theorem irqSet_ackMatch (b : IrqBit) : (irqSet b s).ackMatch = s.ackMatch := rfl
@[simp] theorem irqSet_timer (b : IrqBit) : (irqSet b s).timer = s.timer := rfl
@[simp] theorem irqSet_cntFrameErr (b : IrqBit) : (irqSet b s).cntFrameErr = s.cntFrameErr := rfl
@[simp] theorem irqSet_cntSeqDrop (b : IrqBit) : (irqSet b s).cntSeqDrop = s.cntSeqDrop := rfl
@[simp] theorem irqSet_cntRxOverflow (b : IrqBit) : (irqSet b s).cntRxOverflow = s.cntRxOverflow := rfl
@[simp] theorem irqSet_txBuf (b : IrqBit) : (irqSet b s).txBuf = s.txBuf := rfl
@[simp] theorem irqSet_txq (b : IrqBit) : (irqSet b s).txq = s.txq := rfl
@[simp] theorem irqSet_rxq (b : IrqBit) : (irqSet b s).rxq = s.rxq := rfl
@[simp] theorem irqSet_stRxd (b : IrqBit) : (irqSet b s).stRxd = s.stRxd := rfl
@[simp] theorem irqSet_rxAcc (b : IrqBit) : (irqSet b s).rxAcc = s.rxAcc := rfl
@[simp] theorem irqSet_rxCrc (b : IrqBit) : (irqSet b s).rxCrc = s.rxCrc := rfl
@[simp] theorem irqSet_fcsLo (b : IrqBit) : (irqSet b s).fcsLo = s.fcsLo := rfl
@[simp] theorem irqSet_stTxf (b : IrqBit) : (irqSet b s).stTxf = s.stTxf := rfl
@[simp] theorem irqSet_txWire (b : IrqBit) : (irqSet b s).txWire = s.txWire := rfl
@[simp] theorem irqSet_txIdx (b : IrqBit) : (irqSet b s).txIdx = s.txIdx := rfl
@[simp] theorem irqSet_stArb (b : IrqBit) : (irqSet b s).stArb = s.stArb := rfl
@[simp] theorem irqSet_sendAllowed (b : IrqBit) : (irqSet b s).sendAllowed = s.sendAllowed := rfl
@[simp] theorem irqSet_txReady (b : IrqBit) : (irqSet b s).txReady = s.txReady := rfl
@[simp] theorem irqSet_rdata (b : IrqBit) : (irqSet b s).rdata = s.rdata := rfl
@[simp] theorem irqSet_rxIn (b : IrqBit) : (irqSet b s).rxIn = s.rxIn := rfl
@[simp] theorem irqSet_txOut (b : IrqBit) : (irqSet b s).txOut = s.txOut := rfl
@[simp] theorem irqSet_schedule (b : IrqBit) : (irqSet b s).schedule = s.schedule := rfl
@[simp] theorem irqSet_draws (b : IrqBit) : (irqSet b s).draws = s.draws := rfl

/-! ## enqueueTx -/

@[simp] theorem enqueueTx_params (e : TxEntry) : (enqueueTx e s).params = s.params := rfl
@[simp] theorem enqueueTx_linkOpen (e : TxEntry) : (enqueueTx e s).linkOpen = s.linkOpen := rfl
@[simp] theorem enqueueTx_eosSeen (e : TxEntry) : (enqueueTx e s).eosSeen = s.eosSeen := rfl
@[simp] theorem enqueueTx_closeCause (e : TxEntry) : (enqueueTx e s).closeCause = s.closeCause := rfl
@[simp] theorem enqueueTx_cmdErr (e : TxEntry) : (enqueueTx e s).cmdErr = s.cmdErr := rfl
@[simp] theorem enqueueTx_irqStatus (e : TxEntry) : (enqueueTx e s).irqStatus = s.irqStatus := rfl
@[simp] theorem enqueueTx_irqEnable (e : TxEntry) : (enqueueTx e s).irqEnable = s.irqEnable := rfl
@[simp] theorem enqueueTx_cfgTimeout (e : TxEntry) : (enqueueTx e s).cfgTimeout = s.cfgTimeout := rfl
@[simp] theorem enqueueTx_cfgRetry (e : TxEntry) : (enqueueTx e s).cfgRetry = s.cfgRetry := rfl
@[simp] theorem enqueueTx_cfgMaxinfo (e : TxEntry) : (enqueueTx e s).cfgMaxinfo = s.cfgMaxinfo := rfl
@[simp] theorem enqueueTx_txLen (e : TxEntry) : (enqueueTx e s).txLen = s.txLen := rfl
@[simp] theorem enqueueTx_txSeq (e : TxEntry) : (enqueueTx e s).txSeq = s.txSeq := rfl
@[simp] theorem enqueueTx_rxLast (e : TxEntry) : (enqueueTx e s).rxLast = s.rxLast := rfl
@[simp] theorem enqueueTx_lastAckSeq (e : TxEntry) : (enqueueTx e s).lastAckSeq = s.lastAckSeq := rfl
@[simp] theorem enqueueTx_lastCredit (e : TxEntry) : (enqueueTx e s).lastCredit = s.lastCredit := rfl
@[simp] theorem enqueueTx_laSeen (e : TxEntry) : (enqueueTx e s).laSeen = s.laSeen := rfl
@[simp] theorem enqueueTx_pendingValid (e : TxEntry) : (enqueueTx e s).pendingValid = s.pendingValid := rfl
@[simp] theorem enqueueTx_pendingKind (e : TxEntry) : (enqueueTx e s).pendingKind = s.pendingKind := rfl
@[simp] theorem enqueueTx_pendingSeq (e : TxEntry) : (enqueueTx e s).pendingSeq = s.pendingSeq := rfl
@[simp] theorem enqueueTx_needsAck (e : TxEntry) : (enqueueTx e s).needsAck = s.needsAck := rfl
@[simp] theorem enqueueTx_pendPayload (e : TxEntry) : (enqueueTx e s).pendPayload = s.pendPayload := rfl
@[simp] theorem enqueueTx_attempts (e : TxEntry) : (enqueueTx e s).attempts = s.attempts := rfl
@[simp] theorem enqueueTx_ackMatch (e : TxEntry) : (enqueueTx e s).ackMatch = s.ackMatch := rfl
@[simp] theorem enqueueTx_timer (e : TxEntry) : (enqueueTx e s).timer = s.timer := rfl
@[simp] theorem enqueueTx_cntFrameErr (e : TxEntry) : (enqueueTx e s).cntFrameErr = s.cntFrameErr := rfl
@[simp] theorem enqueueTx_cntSeqDrop (e : TxEntry) : (enqueueTx e s).cntSeqDrop = s.cntSeqDrop := rfl
@[simp] theorem enqueueTx_cntRxOverflow (e : TxEntry) : (enqueueTx e s).cntRxOverflow = s.cntRxOverflow := rfl
@[simp] theorem enqueueTx_txBuf (e : TxEntry) : (enqueueTx e s).txBuf = s.txBuf := rfl
@[simp] theorem enqueueTx_txq (e : TxEntry) : (enqueueTx e s).txq = s.txq ++ [e] := rfl
@[simp] theorem enqueueTx_rxq (e : TxEntry) : (enqueueTx e s).rxq = s.rxq := rfl
@[simp] theorem enqueueTx_stRxd (e : TxEntry) : (enqueueTx e s).stRxd = s.stRxd := rfl
@[simp] theorem enqueueTx_rxAcc (e : TxEntry) : (enqueueTx e s).rxAcc = s.rxAcc := rfl
@[simp] theorem enqueueTx_rxCrc (e : TxEntry) : (enqueueTx e s).rxCrc = s.rxCrc := rfl
@[simp] theorem enqueueTx_fcsLo (e : TxEntry) : (enqueueTx e s).fcsLo = s.fcsLo := rfl
@[simp] theorem enqueueTx_stTxf (e : TxEntry) : (enqueueTx e s).stTxf = s.stTxf := rfl
@[simp] theorem enqueueTx_txWire (e : TxEntry) : (enqueueTx e s).txWire = s.txWire := rfl
@[simp] theorem enqueueTx_txIdx (e : TxEntry) : (enqueueTx e s).txIdx = s.txIdx := rfl
@[simp] theorem enqueueTx_stArb (e : TxEntry) : (enqueueTx e s).stArb = s.stArb := rfl
@[simp] theorem enqueueTx_sendAllowed (e : TxEntry) : (enqueueTx e s).sendAllowed = s.sendAllowed := rfl
@[simp] theorem enqueueTx_txReady (e : TxEntry) : (enqueueTx e s).txReady = s.txReady := rfl
@[simp] theorem enqueueTx_rdata (e : TxEntry) : (enqueueTx e s).rdata = s.rdata := rfl
@[simp] theorem enqueueTx_rxIn (e : TxEntry) : (enqueueTx e s).rxIn = s.rxIn := rfl
@[simp] theorem enqueueTx_txOut (e : TxEntry) : (enqueueTx e s).txOut = s.txOut := rfl
@[simp] theorem enqueueTx_schedule (e : TxEntry) : (enqueueTx e s).schedule = s.schedule := rfl
@[simp] theorem enqueueTx_draws (e : TxEntry) : (enqueueTx e s).draws = s.draws := rfl

/-! ## deliver -/

@[simp] theorem deliver_params (k : RxKind) (q c : Octet) (p : List Octet) : (deliver k q c p s).params = s.params := rfl
@[simp] theorem deliver_linkOpen (k : RxKind) (q c : Octet) (p : List Octet) : (deliver k q c p s).linkOpen = s.linkOpen := rfl
@[simp] theorem deliver_eosSeen (k : RxKind) (q c : Octet) (p : List Octet) : (deliver k q c p s).eosSeen = s.eosSeen := rfl
@[simp] theorem deliver_closeCause (k : RxKind) (q c : Octet) (p : List Octet) : (deliver k q c p s).closeCause = s.closeCause := rfl
@[simp] theorem deliver_cmdErr (k : RxKind) (q c : Octet) (p : List Octet) : (deliver k q c p s).cmdErr = s.cmdErr := rfl
@[simp] theorem deliver_irqStatus (k : RxKind) (q c : Octet) (p : List Octet) : (deliver k q c p s).irqStatus = s.irqStatus ||| IrqBit.rxPacket.mask := rfl
@[simp] theorem deliver_irqEnable (k : RxKind) (q c : Octet) (p : List Octet) : (deliver k q c p s).irqEnable = s.irqEnable := rfl
@[simp] theorem deliver_cfgTimeout (k : RxKind) (q c : Octet) (p : List Octet) : (deliver k q c p s).cfgTimeout = s.cfgTimeout := rfl
@[simp] theorem deliver_cfgRetry (k : RxKind) (q c : Octet) (p : List Octet) : (deliver k q c p s).cfgRetry = s.cfgRetry := rfl
@[simp] theorem deliver_cfgMaxinfo (k : RxKind) (q c : Octet) (p : List Octet) : (deliver k q c p s).cfgMaxinfo = s.cfgMaxinfo := rfl
@[simp] theorem deliver_txLen (k : RxKind) (q c : Octet) (p : List Octet) : (deliver k q c p s).txLen = s.txLen := rfl
@[simp] theorem deliver_txSeq (k : RxKind) (q c : Octet) (p : List Octet) : (deliver k q c p s).txSeq = s.txSeq := rfl
@[simp] theorem deliver_rxLast (k : RxKind) (q c : Octet) (p : List Octet) : (deliver k q c p s).rxLast = s.rxLast := rfl
@[simp] theorem deliver_lastAckSeq (k : RxKind) (q c : Octet) (p : List Octet) : (deliver k q c p s).lastAckSeq = s.lastAckSeq := rfl
@[simp] theorem deliver_lastCredit (k : RxKind) (q c : Octet) (p : List Octet) : (deliver k q c p s).lastCredit = s.lastCredit := rfl
@[simp] theorem deliver_laSeen (k : RxKind) (q c : Octet) (p : List Octet) : (deliver k q c p s).laSeen = s.laSeen := rfl
@[simp] theorem deliver_pendingValid (k : RxKind) (q c : Octet) (p : List Octet) : (deliver k q c p s).pendingValid = s.pendingValid := rfl
@[simp] theorem deliver_pendingKind (k : RxKind) (q c : Octet) (p : List Octet) : (deliver k q c p s).pendingKind = s.pendingKind := rfl
@[simp] theorem deliver_pendingSeq (k : RxKind) (q c : Octet) (p : List Octet) : (deliver k q c p s).pendingSeq = s.pendingSeq := rfl
@[simp] theorem deliver_needsAck (k : RxKind) (q c : Octet) (p : List Octet) : (deliver k q c p s).needsAck = s.needsAck := rfl
@[simp] theorem deliver_pendPayload (k : RxKind) (q c : Octet) (p : List Octet) : (deliver k q c p s).pendPayload = s.pendPayload := rfl
@[simp] theorem deliver_attempts (k : RxKind) (q c : Octet) (p : List Octet) : (deliver k q c p s).attempts = s.attempts := rfl
@[simp] theorem deliver_ackMatch (k : RxKind) (q c : Octet) (p : List Octet) : (deliver k q c p s).ackMatch = s.ackMatch := rfl
@[simp] theorem deliver_timer (k : RxKind) (q c : Octet) (p : List Octet) : (deliver k q c p s).timer = s.timer := rfl
@[simp] theorem deliver_cntFrameErr (k : RxKind) (q c : Octet) (p : List Octet) : (deliver k q c p s).cntFrameErr = s.cntFrameErr := rfl
@[simp] theorem deliver_cntSeqDrop (k : RxKind) (q c : Octet) (p : List Octet) : (deliver k q c p s).cntSeqDrop = s.cntSeqDrop := rfl
@[simp] theorem deliver_cntRxOverflow (k : RxKind) (q c : Octet) (p : List Octet) : (deliver k q c p s).cntRxOverflow = s.cntRxOverflow := rfl
@[simp] theorem deliver_txBuf (k : RxKind) (q c : Octet) (p : List Octet) : (deliver k q c p s).txBuf = s.txBuf := rfl
@[simp] theorem deliver_txq (k : RxKind) (q c : Octet) (p : List Octet) : (deliver k q c p s).txq = s.txq := rfl
@[simp] theorem deliver_rxq (k : RxKind) (q c : Octet) (p : List Octet) : (deliver k q c p s).rxq = s.rxq ++ [RxEntry.mk k q c p] := rfl
@[simp] theorem deliver_stRxd (k : RxKind) (q c : Octet) (p : List Octet) : (deliver k q c p s).stRxd = s.stRxd := rfl
@[simp] theorem deliver_rxAcc (k : RxKind) (q c : Octet) (p : List Octet) : (deliver k q c p s).rxAcc = s.rxAcc := rfl
@[simp] theorem deliver_rxCrc (k : RxKind) (q c : Octet) (p : List Octet) : (deliver k q c p s).rxCrc = s.rxCrc := rfl
@[simp] theorem deliver_fcsLo (k : RxKind) (q c : Octet) (p : List Octet) : (deliver k q c p s).fcsLo = s.fcsLo := rfl
@[simp] theorem deliver_stTxf (k : RxKind) (q c : Octet) (p : List Octet) : (deliver k q c p s).stTxf = s.stTxf := rfl
@[simp] theorem deliver_txWire (k : RxKind) (q c : Octet) (p : List Octet) : (deliver k q c p s).txWire = s.txWire := rfl
@[simp] theorem deliver_txIdx (k : RxKind) (q c : Octet) (p : List Octet) : (deliver k q c p s).txIdx = s.txIdx := rfl
@[simp] theorem deliver_stArb (k : RxKind) (q c : Octet) (p : List Octet) : (deliver k q c p s).stArb = s.stArb := rfl
@[simp] theorem deliver_sendAllowed (k : RxKind) (q c : Octet) (p : List Octet) : (deliver k q c p s).sendAllowed = s.sendAllowed := rfl
@[simp] theorem deliver_txReady (k : RxKind) (q c : Octet) (p : List Octet) : (deliver k q c p s).txReady = s.txReady := rfl
@[simp] theorem deliver_rdata (k : RxKind) (q c : Octet) (p : List Octet) : (deliver k q c p s).rdata = s.rdata := rfl
@[simp] theorem deliver_rxIn (k : RxKind) (q c : Octet) (p : List Octet) : (deliver k q c p s).rxIn = s.rxIn := rfl
@[simp] theorem deliver_txOut (k : RxKind) (q c : Octet) (p : List Octet) : (deliver k q c p s).txOut = s.txOut := rfl
@[simp] theorem deliver_schedule (k : RxKind) (q c : Octet) (p : List Octet) : (deliver k q c p s).schedule = s.schedule := rfl
@[simp] theorem deliver_draws (k : RxKind) (q c : Octet) (p : List Octet) : (deliver k q c p s).draws = s.draws := rfl

/-! ## rxOverflow -/

@[simp] theorem rxOverflow_params : (rxOverflow s).params = s.params := rfl
@[simp] theorem rxOverflow_linkOpen : (rxOverflow s).linkOpen = s.linkOpen := rfl
@[simp] theorem rxOverflow_eosSeen : (rxOverflow s).eosSeen = s.eosSeen := rfl
@[simp] theorem rxOverflow_closeCause : (rxOverflow s).closeCause = s.closeCause := rfl
@[simp] theorem rxOverflow_cmdErr : (rxOverflow s).cmdErr = s.cmdErr := rfl
@[simp] theorem rxOverflow_irqStatus : (rxOverflow s).irqStatus = s.irqStatus := rfl
@[simp] theorem rxOverflow_irqEnable : (rxOverflow s).irqEnable = s.irqEnable := rfl
@[simp] theorem rxOverflow_cfgTimeout : (rxOverflow s).cfgTimeout = s.cfgTimeout := rfl
@[simp] theorem rxOverflow_cfgRetry : (rxOverflow s).cfgRetry = s.cfgRetry := rfl
@[simp] theorem rxOverflow_cfgMaxinfo : (rxOverflow s).cfgMaxinfo = s.cfgMaxinfo := rfl
@[simp] theorem rxOverflow_txLen : (rxOverflow s).txLen = s.txLen := rfl
@[simp] theorem rxOverflow_txSeq : (rxOverflow s).txSeq = s.txSeq := rfl
@[simp] theorem rxOverflow_rxLast : (rxOverflow s).rxLast = s.rxLast := rfl
@[simp] theorem rxOverflow_lastAckSeq : (rxOverflow s).lastAckSeq = s.lastAckSeq := rfl
@[simp] theorem rxOverflow_lastCredit : (rxOverflow s).lastCredit = s.lastCredit := rfl
@[simp] theorem rxOverflow_laSeen : (rxOverflow s).laSeen = s.laSeen := rfl
@[simp] theorem rxOverflow_pendingValid : (rxOverflow s).pendingValid = s.pendingValid := rfl
@[simp] theorem rxOverflow_pendingKind : (rxOverflow s).pendingKind = s.pendingKind := rfl
@[simp] theorem rxOverflow_pendingSeq : (rxOverflow s).pendingSeq = s.pendingSeq := rfl
@[simp] theorem rxOverflow_needsAck : (rxOverflow s).needsAck = s.needsAck := rfl
@[simp] theorem rxOverflow_pendPayload : (rxOverflow s).pendPayload = s.pendPayload := rfl
@[simp] theorem rxOverflow_attempts : (rxOverflow s).attempts = s.attempts := rfl
@[simp] theorem rxOverflow_ackMatch : (rxOverflow s).ackMatch = s.ackMatch := rfl
@[simp] theorem rxOverflow_timer : (rxOverflow s).timer = s.timer := rfl
@[simp] theorem rxOverflow_cntFrameErr : (rxOverflow s).cntFrameErr = s.cntFrameErr := rfl
@[simp] theorem rxOverflow_cntSeqDrop : (rxOverflow s).cntSeqDrop = s.cntSeqDrop := rfl
@[simp] theorem rxOverflow_cntRxOverflow : (rxOverflow s).cntRxOverflow = sat16Inc s.cntRxOverflow := rfl
@[simp] theorem rxOverflow_txBuf : (rxOverflow s).txBuf = s.txBuf := rfl
@[simp] theorem rxOverflow_txq : (rxOverflow s).txq = s.txq := rfl
@[simp] theorem rxOverflow_rxq : (rxOverflow s).rxq = s.rxq := rfl
@[simp] theorem rxOverflow_stRxd : (rxOverflow s).stRxd = s.stRxd := rfl
@[simp] theorem rxOverflow_rxAcc : (rxOverflow s).rxAcc = s.rxAcc := rfl
@[simp] theorem rxOverflow_rxCrc : (rxOverflow s).rxCrc = s.rxCrc := rfl
@[simp] theorem rxOverflow_fcsLo : (rxOverflow s).fcsLo = s.fcsLo := rfl
@[simp] theorem rxOverflow_stTxf : (rxOverflow s).stTxf = s.stTxf := rfl
@[simp] theorem rxOverflow_txWire : (rxOverflow s).txWire = s.txWire := rfl
@[simp] theorem rxOverflow_txIdx : (rxOverflow s).txIdx = s.txIdx := rfl
@[simp] theorem rxOverflow_stArb : (rxOverflow s).stArb = s.stArb := rfl
@[simp] theorem rxOverflow_sendAllowed : (rxOverflow s).sendAllowed = s.sendAllowed := rfl
@[simp] theorem rxOverflow_txReady : (rxOverflow s).txReady = s.txReady := rfl
@[simp] theorem rxOverflow_rdata : (rxOverflow s).rdata = s.rdata := rfl
@[simp] theorem rxOverflow_rxIn : (rxOverflow s).rxIn = s.rxIn := rfl
@[simp] theorem rxOverflow_txOut : (rxOverflow s).txOut = s.txOut := rfl
@[simp] theorem rxOverflow_schedule : (rxOverflow s).schedule = s.schedule := rfl
@[simp] theorem rxOverflow_draws : (rxOverflow s).draws = s.draws := rfl

/-! ## laReceive -/

@[simp] theorem laReceive_params (q c : Octet) : (laReceive q c s).params = s.params := rfl
@[simp] theorem laReceive_linkOpen (q c : Octet) : (laReceive q c s).linkOpen = s.linkOpen := rfl
@[simp] theorem laReceive_eosSeen (q c : Octet) : (laReceive q c s).eosSeen = s.eosSeen := rfl
@[simp] theorem laReceive_closeCause (q c : Octet) : (laReceive q c s).closeCause = s.closeCause := rfl
@[simp] theorem laReceive_cmdErr (q c : Octet) : (laReceive q c s).cmdErr = s.cmdErr := rfl
@[simp] theorem laReceive_irqStatus (q c : Octet) : (laReceive q c s).irqStatus = s.irqStatus := rfl
@[simp] theorem laReceive_irqEnable (q c : Octet) : (laReceive q c s).irqEnable = s.irqEnable := rfl
@[simp] theorem laReceive_cfgTimeout (q c : Octet) : (laReceive q c s).cfgTimeout = s.cfgTimeout := rfl
@[simp] theorem laReceive_cfgRetry (q c : Octet) : (laReceive q c s).cfgRetry = s.cfgRetry := rfl
@[simp] theorem laReceive_cfgMaxinfo (q c : Octet) : (laReceive q c s).cfgMaxinfo = s.cfgMaxinfo := rfl
@[simp] theorem laReceive_txLen (q c : Octet) : (laReceive q c s).txLen = s.txLen := rfl
@[simp] theorem laReceive_txSeq (q c : Octet) : (laReceive q c s).txSeq = s.txSeq := rfl
@[simp] theorem laReceive_rxLast (q c : Octet) : (laReceive q c s).rxLast = s.rxLast := rfl
@[simp] theorem laReceive_lastAckSeq (q c : Octet) : (laReceive q c s).lastAckSeq = q := rfl
@[simp] theorem laReceive_lastCredit (q c : Octet) : (laReceive q c s).lastCredit = c := rfl
@[simp] theorem laReceive_laSeen (q c : Octet) : (laReceive q c s).laSeen = true := rfl
@[simp] theorem laReceive_pendingValid (q c : Octet) : (laReceive q c s).pendingValid = s.pendingValid := rfl
@[simp] theorem laReceive_pendingKind (q c : Octet) : (laReceive q c s).pendingKind = s.pendingKind := rfl
@[simp] theorem laReceive_pendingSeq (q c : Octet) : (laReceive q c s).pendingSeq = s.pendingSeq := rfl
@[simp] theorem laReceive_needsAck (q c : Octet) : (laReceive q c s).needsAck = s.needsAck := rfl
@[simp] theorem laReceive_pendPayload (q c : Octet) : (laReceive q c s).pendPayload = s.pendPayload := rfl
@[simp] theorem laReceive_attempts (q c : Octet) : (laReceive q c s).attempts = s.attempts := rfl
@[simp] theorem laReceive_ackMatch (q c : Octet) : (laReceive q c s).ackMatch = (s.ackMatch || laMatches q s) := rfl
@[simp] theorem laReceive_timer (q c : Octet) : (laReceive q c s).timer = s.timer := rfl
@[simp] theorem laReceive_cntFrameErr (q c : Octet) : (laReceive q c s).cntFrameErr = s.cntFrameErr := rfl
@[simp] theorem laReceive_cntSeqDrop (q c : Octet) : (laReceive q c s).cntSeqDrop = s.cntSeqDrop := rfl
@[simp] theorem laReceive_cntRxOverflow (q c : Octet) : (laReceive q c s).cntRxOverflow = s.cntRxOverflow := rfl
@[simp] theorem laReceive_txBuf (q c : Octet) : (laReceive q c s).txBuf = s.txBuf := rfl
@[simp] theorem laReceive_txq (q c : Octet) : (laReceive q c s).txq = s.txq := rfl
@[simp] theorem laReceive_rxq (q c : Octet) : (laReceive q c s).rxq = s.rxq := rfl
@[simp] theorem laReceive_stRxd (q c : Octet) : (laReceive q c s).stRxd = s.stRxd := rfl
@[simp] theorem laReceive_rxAcc (q c : Octet) : (laReceive q c s).rxAcc = s.rxAcc := rfl
@[simp] theorem laReceive_rxCrc (q c : Octet) : (laReceive q c s).rxCrc = s.rxCrc := rfl
@[simp] theorem laReceive_fcsLo (q c : Octet) : (laReceive q c s).fcsLo = s.fcsLo := rfl
@[simp] theorem laReceive_stTxf (q c : Octet) : (laReceive q c s).stTxf = s.stTxf := rfl
@[simp] theorem laReceive_txWire (q c : Octet) : (laReceive q c s).txWire = s.txWire := rfl
@[simp] theorem laReceive_txIdx (q c : Octet) : (laReceive q c s).txIdx = s.txIdx := rfl
@[simp] theorem laReceive_stArb (q c : Octet) : (laReceive q c s).stArb = s.stArb := rfl
@[simp] theorem laReceive_sendAllowed (q c : Octet) : (laReceive q c s).sendAllowed = s.sendAllowed := rfl
@[simp] theorem laReceive_txReady (q c : Octet) : (laReceive q c s).txReady = s.txReady := rfl
@[simp] theorem laReceive_rdata (q c : Octet) : (laReceive q c s).rdata = s.rdata := rfl
@[simp] theorem laReceive_rxIn (q c : Octet) : (laReceive q c s).rxIn = s.rxIn := rfl
@[simp] theorem laReceive_txOut (q c : Octet) : (laReceive q c s).txOut = s.txOut := rfl
@[simp] theorem laReceive_schedule (q c : Octet) : (laReceive q c s).schedule = s.schedule := rfl
@[simp] theorem laReceive_draws (q c : Octet) : (laReceive q c s).draws = s.draws := rfl

/-! ## rxdIdle -/

@[simp] theorem rxdIdle_params : (rxdIdle s).params = s.params := rfl
@[simp] theorem rxdIdle_linkOpen : (rxdIdle s).linkOpen = s.linkOpen := rfl
@[simp] theorem rxdIdle_eosSeen : (rxdIdle s).eosSeen = s.eosSeen := rfl
@[simp] theorem rxdIdle_closeCause : (rxdIdle s).closeCause = s.closeCause := rfl
@[simp] theorem rxdIdle_cmdErr : (rxdIdle s).cmdErr = s.cmdErr := rfl
@[simp] theorem rxdIdle_irqStatus : (rxdIdle s).irqStatus = s.irqStatus := rfl
@[simp] theorem rxdIdle_irqEnable : (rxdIdle s).irqEnable = s.irqEnable := rfl
@[simp] theorem rxdIdle_cfgTimeout : (rxdIdle s).cfgTimeout = s.cfgTimeout := rfl
@[simp] theorem rxdIdle_cfgRetry : (rxdIdle s).cfgRetry = s.cfgRetry := rfl
@[simp] theorem rxdIdle_cfgMaxinfo : (rxdIdle s).cfgMaxinfo = s.cfgMaxinfo := rfl
@[simp] theorem rxdIdle_txLen : (rxdIdle s).txLen = s.txLen := rfl
@[simp] theorem rxdIdle_txSeq : (rxdIdle s).txSeq = s.txSeq := rfl
@[simp] theorem rxdIdle_rxLast : (rxdIdle s).rxLast = s.rxLast := rfl
@[simp] theorem rxdIdle_lastAckSeq : (rxdIdle s).lastAckSeq = s.lastAckSeq := rfl
@[simp] theorem rxdIdle_lastCredit : (rxdIdle s).lastCredit = s.lastCredit := rfl
@[simp] theorem rxdIdle_laSeen : (rxdIdle s).laSeen = s.laSeen := rfl
@[simp] theorem rxdIdle_pendingValid : (rxdIdle s).pendingValid = s.pendingValid := rfl
@[simp] theorem rxdIdle_pendingKind : (rxdIdle s).pendingKind = s.pendingKind := rfl
@[simp] theorem rxdIdle_pendingSeq : (rxdIdle s).pendingSeq = s.pendingSeq := rfl
@[simp] theorem rxdIdle_needsAck : (rxdIdle s).needsAck = s.needsAck := rfl
@[simp] theorem rxdIdle_pendPayload : (rxdIdle s).pendPayload = s.pendPayload := rfl
@[simp] theorem rxdIdle_attempts : (rxdIdle s).attempts = s.attempts := rfl
@[simp] theorem rxdIdle_ackMatch : (rxdIdle s).ackMatch = s.ackMatch := rfl
@[simp] theorem rxdIdle_timer : (rxdIdle s).timer = s.timer := rfl
@[simp] theorem rxdIdle_cntFrameErr : (rxdIdle s).cntFrameErr = s.cntFrameErr := rfl
@[simp] theorem rxdIdle_cntSeqDrop : (rxdIdle s).cntSeqDrop = s.cntSeqDrop := rfl
@[simp] theorem rxdIdle_cntRxOverflow : (rxdIdle s).cntRxOverflow = s.cntRxOverflow := rfl
@[simp] theorem rxdIdle_txBuf : (rxdIdle s).txBuf = s.txBuf := rfl
@[simp] theorem rxdIdle_txq : (rxdIdle s).txq = s.txq := rfl
@[simp] theorem rxdIdle_rxq : (rxdIdle s).rxq = s.rxq := rfl
@[simp] theorem rxdIdle_stRxd : (rxdIdle s).stRxd = .hunt0 := rfl
@[simp] theorem rxdIdle_rxAcc : (rxdIdle s).rxAcc = [] := rfl
@[simp] theorem rxdIdle_rxCrc : (rxdIdle s).rxCrc = 0 := rfl
@[simp] theorem rxdIdle_fcsLo : (rxdIdle s).fcsLo = 0 := rfl
@[simp] theorem rxdIdle_stTxf : (rxdIdle s).stTxf = s.stTxf := rfl
@[simp] theorem rxdIdle_txWire : (rxdIdle s).txWire = s.txWire := rfl
@[simp] theorem rxdIdle_txIdx : (rxdIdle s).txIdx = s.txIdx := rfl
@[simp] theorem rxdIdle_stArb : (rxdIdle s).stArb = s.stArb := rfl
@[simp] theorem rxdIdle_sendAllowed : (rxdIdle s).sendAllowed = s.sendAllowed := rfl
@[simp] theorem rxdIdle_txReady : (rxdIdle s).txReady = s.txReady := rfl
@[simp] theorem rxdIdle_rdata : (rxdIdle s).rdata = s.rdata := rfl
@[simp] theorem rxdIdle_rxIn : (rxdIdle s).rxIn = s.rxIn := rfl
@[simp] theorem rxdIdle_txOut : (rxdIdle s).txOut = s.txOut := rfl
@[simp] theorem rxdIdle_schedule : (rxdIdle s).schedule = s.schedule := rfl
@[simp] theorem rxdIdle_draws : (rxdIdle s).draws = s.draws := rfl

/-! ## txfAbort -/

@[simp] theorem txfAbort_params : (txfAbort s).params = s.params := rfl
@[simp] theorem txfAbort_linkOpen : (txfAbort s).linkOpen = s.linkOpen := rfl
@[simp] theorem txfAbort_eosSeen : (txfAbort s).eosSeen = s.eosSeen := rfl
@[simp] theorem txfAbort_closeCause : (txfAbort s).closeCause = s.closeCause := rfl
@[simp] theorem txfAbort_cmdErr : (txfAbort s).cmdErr = s.cmdErr := rfl
@[simp] theorem txfAbort_irqStatus : (txfAbort s).irqStatus = s.irqStatus := rfl
@[simp] theorem txfAbort_irqEnable : (txfAbort s).irqEnable = s.irqEnable := rfl
@[simp] theorem txfAbort_cfgTimeout : (txfAbort s).cfgTimeout = s.cfgTimeout := rfl
@[simp] theorem txfAbort_cfgRetry : (txfAbort s).cfgRetry = s.cfgRetry := rfl
@[simp] theorem txfAbort_cfgMaxinfo : (txfAbort s).cfgMaxinfo = s.cfgMaxinfo := rfl
@[simp] theorem txfAbort_txLen : (txfAbort s).txLen = s.txLen := rfl
@[simp] theorem txfAbort_txSeq : (txfAbort s).txSeq = s.txSeq := rfl
@[simp] theorem txfAbort_rxLast : (txfAbort s).rxLast = s.rxLast := rfl
@[simp] theorem txfAbort_lastAckSeq : (txfAbort s).lastAckSeq = s.lastAckSeq := rfl
@[simp] theorem txfAbort_lastCredit : (txfAbort s).lastCredit = s.lastCredit := rfl
@[simp] theorem txfAbort_laSeen : (txfAbort s).laSeen = s.laSeen := rfl
@[simp] theorem txfAbort_pendingValid : (txfAbort s).pendingValid = s.pendingValid := rfl
@[simp] theorem txfAbort_pendingKind : (txfAbort s).pendingKind = s.pendingKind := rfl
@[simp] theorem txfAbort_pendingSeq : (txfAbort s).pendingSeq = s.pendingSeq := rfl
@[simp] theorem txfAbort_needsAck : (txfAbort s).needsAck = s.needsAck := rfl
@[simp] theorem txfAbort_pendPayload : (txfAbort s).pendPayload = s.pendPayload := rfl
@[simp] theorem txfAbort_attempts : (txfAbort s).attempts = s.attempts := rfl
@[simp] theorem txfAbort_ackMatch : (txfAbort s).ackMatch = s.ackMatch := rfl
@[simp] theorem txfAbort_timer : (txfAbort s).timer = s.timer := rfl
@[simp] theorem txfAbort_cntFrameErr : (txfAbort s).cntFrameErr = s.cntFrameErr := rfl
@[simp] theorem txfAbort_cntSeqDrop : (txfAbort s).cntSeqDrop = s.cntSeqDrop := rfl
@[simp] theorem txfAbort_cntRxOverflow : (txfAbort s).cntRxOverflow = s.cntRxOverflow := rfl
@[simp] theorem txfAbort_txBuf : (txfAbort s).txBuf = s.txBuf := rfl
@[simp] theorem txfAbort_txq : (txfAbort s).txq = s.txq := rfl
@[simp] theorem txfAbort_rxq : (txfAbort s).rxq = s.rxq := rfl
@[simp] theorem txfAbort_stRxd : (txfAbort s).stRxd = s.stRxd := rfl
@[simp] theorem txfAbort_rxAcc : (txfAbort s).rxAcc = s.rxAcc := rfl
@[simp] theorem txfAbort_rxCrc : (txfAbort s).rxCrc = s.rxCrc := rfl
@[simp] theorem txfAbort_fcsLo : (txfAbort s).fcsLo = s.fcsLo := rfl
@[simp] theorem txfAbort_stTxf : (txfAbort s).stTxf = .idle := rfl
@[simp] theorem txfAbort_txWire : (txfAbort s).txWire = [] := rfl
@[simp] theorem txfAbort_txIdx : (txfAbort s).txIdx = 0 := rfl
@[simp] theorem txfAbort_stArb : (txfAbort s).stArb = s.stArb := rfl
@[simp] theorem txfAbort_sendAllowed : (txfAbort s).sendAllowed = s.sendAllowed := rfl
@[simp] theorem txfAbort_txReady : (txfAbort s).txReady = s.txReady := rfl
@[simp] theorem txfAbort_rdata : (txfAbort s).rdata = s.rdata := rfl
@[simp] theorem txfAbort_rxIn : (txfAbort s).rxIn = s.rxIn := rfl
@[simp] theorem txfAbort_txOut : (txfAbort s).txOut = s.txOut := rfl
@[simp] theorem txfAbort_schedule : (txfAbort s).schedule = s.schedule := rfl
@[simp] theorem txfAbort_draws : (txfAbort s).draws = s.draws := rfl

/-! ## arbIdle -/

@[simp] theorem arbIdle_params : (arbIdle s).params = s.params := rfl
@[simp] theorem arbIdle_linkOpen : (arbIdle s).linkOpen = s.linkOpen := rfl
@[simp] theorem arbIdle_eosSeen : (arbIdle s).eosSeen = s.eosSeen := rfl
@[simp] theorem arbIdle_closeCause : (arbIdle s).closeCause = s.closeCause := rfl
@[simp] theorem arbIdle_cmdErr : (arbIdle s).cmdErr = s.cmdErr := rfl
@[simp] theorem arbIdle_irqStatus : (arbIdle s).irqStatus = s.irqStatus := rfl
@[simp] theorem arbIdle_irqEnable : (arbIdle s).irqEnable = s.irqEnable := rfl
@[simp] theorem arbIdle_cfgTimeout : (arbIdle s).cfgTimeout = s.cfgTimeout := rfl
@[simp] theorem arbIdle_cfgRetry : (arbIdle s).cfgRetry = s.cfgRetry := rfl
@[simp] theorem arbIdle_cfgMaxinfo : (arbIdle s).cfgMaxinfo = s.cfgMaxinfo := rfl
@[simp] theorem arbIdle_txLen : (arbIdle s).txLen = s.txLen := rfl
@[simp] theorem arbIdle_txSeq : (arbIdle s).txSeq = s.txSeq := rfl
@[simp] theorem arbIdle_rxLast : (arbIdle s).rxLast = s.rxLast := rfl
@[simp] theorem arbIdle_lastAckSeq : (arbIdle s).lastAckSeq = s.lastAckSeq := rfl
@[simp] theorem arbIdle_lastCredit : (arbIdle s).lastCredit = s.lastCredit := rfl
@[simp] theorem arbIdle_laSeen : (arbIdle s).laSeen = s.laSeen := rfl
@[simp] theorem arbIdle_pendingValid : (arbIdle s).pendingValid = false := rfl
@[simp] theorem arbIdle_pendingKind : (arbIdle s).pendingKind = none := rfl
@[simp] theorem arbIdle_pendingSeq : (arbIdle s).pendingSeq = 0 := rfl
@[simp] theorem arbIdle_needsAck : (arbIdle s).needsAck = s.needsAck := rfl
@[simp] theorem arbIdle_pendPayload : (arbIdle s).pendPayload = [] := rfl
@[simp] theorem arbIdle_attempts : (arbIdle s).attempts = 0 := rfl
@[simp] theorem arbIdle_ackMatch : (arbIdle s).ackMatch = false := rfl
@[simp] theorem arbIdle_timer : (arbIdle s).timer = 0 := rfl
@[simp] theorem arbIdle_cntFrameErr : (arbIdle s).cntFrameErr = s.cntFrameErr := rfl
@[simp] theorem arbIdle_cntSeqDrop : (arbIdle s).cntSeqDrop = s.cntSeqDrop := rfl
@[simp] theorem arbIdle_cntRxOverflow : (arbIdle s).cntRxOverflow = s.cntRxOverflow := rfl
@[simp] theorem arbIdle_txBuf : (arbIdle s).txBuf = s.txBuf := rfl
@[simp] theorem arbIdle_txq : (arbIdle s).txq = s.txq := rfl
@[simp] theorem arbIdle_rxq : (arbIdle s).rxq = s.rxq := rfl
@[simp] theorem arbIdle_stRxd : (arbIdle s).stRxd = s.stRxd := rfl
@[simp] theorem arbIdle_rxAcc : (arbIdle s).rxAcc = s.rxAcc := rfl
@[simp] theorem arbIdle_rxCrc : (arbIdle s).rxCrc = s.rxCrc := rfl
@[simp] theorem arbIdle_fcsLo : (arbIdle s).fcsLo = s.fcsLo := rfl
@[simp] theorem arbIdle_stTxf : (arbIdle s).stTxf = s.stTxf := rfl
@[simp] theorem arbIdle_txWire : (arbIdle s).txWire = s.txWire := rfl
@[simp] theorem arbIdle_txIdx : (arbIdle s).txIdx = s.txIdx := rfl
@[simp] theorem arbIdle_stArb : (arbIdle s).stArb = .idle := rfl
@[simp] theorem arbIdle_sendAllowed : (arbIdle s).sendAllowed = s.sendAllowed := rfl
@[simp] theorem arbIdle_txReady : (arbIdle s).txReady = s.txReady := rfl
@[simp] theorem arbIdle_rdata : (arbIdle s).rdata = s.rdata := rfl
@[simp] theorem arbIdle_rxIn : (arbIdle s).rxIn = s.rxIn := rfl
@[simp] theorem arbIdle_txOut : (arbIdle s).txOut = s.txOut := rfl
@[simp] theorem arbIdle_schedule : (arbIdle s).schedule = s.schedule := rfl
@[simp] theorem arbIdle_draws : (arbIdle s).draws = s.draws := rfl

/-! ## frameError -/

@[simp] theorem frameError_params (c : FrameErrorCause) : (frameError c s).params = s.params := rfl
@[simp] theorem frameError_linkOpen (c : FrameErrorCause) : (frameError c s).linkOpen = s.linkOpen := rfl
@[simp] theorem frameError_eosSeen (c : FrameErrorCause) : (frameError c s).eosSeen = s.eosSeen := rfl
@[simp] theorem frameError_closeCause (c : FrameErrorCause) : (frameError c s).closeCause = s.closeCause := rfl
@[simp] theorem frameError_cmdErr (c : FrameErrorCause) : (frameError c s).cmdErr = s.cmdErr := rfl
@[simp] theorem frameError_irqStatus (c : FrameErrorCause) : (frameError c s).irqStatus = s.irqStatus := rfl
@[simp] theorem frameError_irqEnable (c : FrameErrorCause) : (frameError c s).irqEnable = s.irqEnable := rfl
@[simp] theorem frameError_cfgTimeout (c : FrameErrorCause) : (frameError c s).cfgTimeout = s.cfgTimeout := rfl
@[simp] theorem frameError_cfgRetry (c : FrameErrorCause) : (frameError c s).cfgRetry = s.cfgRetry := rfl
@[simp] theorem frameError_cfgMaxinfo (c : FrameErrorCause) : (frameError c s).cfgMaxinfo = s.cfgMaxinfo := rfl
@[simp] theorem frameError_txLen (c : FrameErrorCause) : (frameError c s).txLen = s.txLen := rfl
@[simp] theorem frameError_txSeq (c : FrameErrorCause) : (frameError c s).txSeq = s.txSeq := rfl
@[simp] theorem frameError_rxLast (c : FrameErrorCause) : (frameError c s).rxLast = s.rxLast := rfl
@[simp] theorem frameError_lastAckSeq (c : FrameErrorCause) : (frameError c s).lastAckSeq = s.lastAckSeq := rfl
@[simp] theorem frameError_lastCredit (c : FrameErrorCause) : (frameError c s).lastCredit = s.lastCredit := rfl
@[simp] theorem frameError_laSeen (c : FrameErrorCause) : (frameError c s).laSeen = s.laSeen := rfl
@[simp] theorem frameError_pendingValid (c : FrameErrorCause) : (frameError c s).pendingValid = s.pendingValid := rfl
@[simp] theorem frameError_pendingKind (c : FrameErrorCause) : (frameError c s).pendingKind = s.pendingKind := rfl
@[simp] theorem frameError_pendingSeq (c : FrameErrorCause) : (frameError c s).pendingSeq = s.pendingSeq := rfl
@[simp] theorem frameError_needsAck (c : FrameErrorCause) : (frameError c s).needsAck = s.needsAck := rfl
@[simp] theorem frameError_pendPayload (c : FrameErrorCause) : (frameError c s).pendPayload = s.pendPayload := rfl
@[simp] theorem frameError_attempts (c : FrameErrorCause) : (frameError c s).attempts = s.attempts := rfl
@[simp] theorem frameError_ackMatch (c : FrameErrorCause) : (frameError c s).ackMatch = s.ackMatch := rfl
@[simp] theorem frameError_timer (c : FrameErrorCause) : (frameError c s).timer = s.timer := rfl
@[simp] theorem frameError_cntFrameErr (c : FrameErrorCause) : (frameError c s).cntFrameErr = sat16Inc s.cntFrameErr := rfl
@[simp] theorem frameError_cntSeqDrop (c : FrameErrorCause) : (frameError c s).cntSeqDrop = s.cntSeqDrop := rfl
@[simp] theorem frameError_cntRxOverflow (c : FrameErrorCause) : (frameError c s).cntRxOverflow = s.cntRxOverflow := rfl
@[simp] theorem frameError_txBuf (c : FrameErrorCause) : (frameError c s).txBuf = s.txBuf := rfl
@[simp] theorem frameError_txq (c : FrameErrorCause) : (frameError c s).txq = s.txq := rfl
@[simp] theorem frameError_rxq (c : FrameErrorCause) : (frameError c s).rxq = s.rxq := rfl
@[simp] theorem frameError_stRxd (c : FrameErrorCause) : (frameError c s).stRxd = .hunt0 := rfl
@[simp] theorem frameError_rxAcc (c : FrameErrorCause) : (frameError c s).rxAcc = [] := rfl
@[simp] theorem frameError_rxCrc (c : FrameErrorCause) : (frameError c s).rxCrc = 0 := rfl
@[simp] theorem frameError_fcsLo (c : FrameErrorCause) : (frameError c s).fcsLo = 0 := rfl
@[simp] theorem frameError_stTxf (c : FrameErrorCause) : (frameError c s).stTxf = s.stTxf := rfl
@[simp] theorem frameError_txWire (c : FrameErrorCause) : (frameError c s).txWire = s.txWire := rfl
@[simp] theorem frameError_txIdx (c : FrameErrorCause) : (frameError c s).txIdx = s.txIdx := rfl
@[simp] theorem frameError_stArb (c : FrameErrorCause) : (frameError c s).stArb = s.stArb := rfl
@[simp] theorem frameError_sendAllowed (c : FrameErrorCause) : (frameError c s).sendAllowed = s.sendAllowed := rfl
@[simp] theorem frameError_txReady (c : FrameErrorCause) : (frameError c s).txReady = s.txReady := rfl
@[simp] theorem frameError_rdata (c : FrameErrorCause) : (frameError c s).rdata = s.rdata := rfl
@[simp] theorem frameError_rxIn (c : FrameErrorCause) : (frameError c s).rxIn = s.rxIn := rfl
@[simp] theorem frameError_txOut (c : FrameErrorCause) : (frameError c s).txOut = s.txOut := rfl
@[simp] theorem frameError_schedule (c : FrameErrorCause) : (frameError c s).schedule = s.schedule := rfl
@[simp] theorem frameError_draws (c : FrameErrorCause) : (frameError c s).draws = s.draws := rfl

end Sys2Proof.Machine
end

