-- ==== Sys2Proof/Laws/Ops.lean ====
section
/-! SUPPORT. One lemma per shared operation saying once everything it can do, for proofs to cite instead of unfolding it,
and the inversion lemmas of the agents' turns and of `step`. -/

namespace Sys2Proof.Machine

/-! ## Checks and commands -/

theorem firstError_cons (good : Bool) (e : CmdErr) (rest : List (Bool × CmdErr)) :
    firstError ((good, e) :: rest) = if good then firstError rest else e := rfl

@[simp] theorem finishCommand_ok (s : State) : finishCommand .ok s = { s with cmdErr := .ok } := rfl

/-- A command that ends with an error only records it (R311). -/
theorem finishCommand_error {e : CmdErr} (h : e ≠ .ok) (s : State) :
    finishCommand e s = irqSet .cmdErr { s with cmdErr := e } := by
  cases e <;> first | exact absurd rfl h | rfl

/-- A command has its whole effect, or records its error and has none (R310, R311). -/
theorem runCommand_cases (check : CmdErr) (t s : State) :
    (check = .ok ∧ runCommand check t s = { t with cmdErr := .ok }) ∨
    (check ≠ .ok ∧ runCommand check t s = irqSet .cmdErr { s with cmdErr := check }) := by
  cases check <;> first | exact .inl ⟨rfl, rfl⟩ | exact .inr ⟨by decide, rfl⟩

theorem lengthIn_iff (n : Nat) (s : State) :
    lengthIn n s = true ↔ 1 ≤ s.txLen.toNat ∧ s.txLen.toNat ≤ n := by
  simp [lengthIn]

/-- Three checks all pass. -/
theorem firstError_three {a b c : Bool} {x y z : CmdErr} (hx : x ≠ .ok) (hy : y ≠ .ok) (hz : z ≠ .ok) :
    firstError [(a, x), (b, y), (c, z)] = .ok ↔ a = true ∧ b = true ∧ c = true := by
  cases a <;> cases b <;> cases c <;> simp [firstError, hx, hy, hz]

theorem not_txqFull_iff (s : State) : (!txqFull s) = true ↔ s.txq.length ≠ s.params.txqDepth := by simp [txqFull]

/-- The checks of SEND_LR and SEND_LD all pass. -/
theorem checkSendWhole_ok (s : State) :
    checkSendWhole s = .ok ↔
      s.linkOpen = true ∧ (1 ≤ s.txLen.toNat ∧ s.txLen.toNat ≤ s.params.maxpkt) ∧ s.txq.length ≠ s.params.txqDepth := by
  rw [checkSendWhole, firstError_three (by decide) (by decide) (by decide), lengthIn_iff, not_txqFull_iff]

/-- The checks of SEND_LT all pass. -/
theorem checkSendLt_ok (s : State) :
    checkSendLt s = .ok ↔
      s.linkOpen = true ∧ (1 ≤ s.txLen.toNat ∧ s.txLen.toNat ≤ s.cfgMaxinfo.toNat) ∧
        s.txq.length ≠ s.params.txqDepth := by
  rw [checkSendLt, firstError_three (by decide) (by decide) (by decide), lengthIn_iff, not_txqFull_iff]

/-- The checks of SEND_LA all pass. -/
theorem checkSendLa_ok (d : Bool) (s : State) :
    checkSendLa d s = .ok ↔
      s.linkOpen = true ∧ (d = true → s.txLen.toNat ≤ s.params.maxpkt - 7) ∧ s.txq.length ≠ s.params.txqDepth := by
  rw [checkSendLa, firstError_three (by decide) (by decide) (by decide), not_txqFull_iff]
  cases d <;> simp

theorem checkOpen_ok (s : State) : checkOpen s = .ok ↔ s.linkOpen = false := by
  simp only [checkOpen, firstError]
  split_ifs <;> simp_all

theorem checkRelease_ok (s : State) : checkRelease s = .ok ↔ s.rxq ≠ [] := by
  unfold checkRelease firstError firstError rxqNonempty
  by_cases h : s.rxq = [] <;> simp [h, List.length_pos_iff]

@[simp] theorem txOctets_length (s : State) (n : Nat) : (txOctets s n).length = n := by simp [txOctets]

@[simp] theorem txData_length (s : State) : (txData s).length = s.txLen.toNat := by simp [txData]

/-! ## Built payloads -/

theorem octets_length_le (f : LenField) : 1 ≤ f.octets.length ∧ f.octets.length ≤ 3 := by
  cases f <;> simp [LenField.octets]

theorem packetOctets_length (f : LenField) (ty : Octet) (body : List Octet) :
    (packetOctets f ty body).length = f.octets.length + 1 + body.length := by
  simp [packetOctets]; omega

/-- A built LT is at most 5 octets longer than its data (R211). -/
theorem buildLt_length_le (m : LenMode) (q : Octet) (d : List Octet) : (buildLt m q d).length ≤ d.length + 5 := by
  have := octets_length_le (builtLen m 2 (2 + d.length))
  simp [buildLt, packetOctets_length]; omega

/-- A built LA is at most 6 octets longer than its data (R212). -/
theorem buildLa_length_le (m : LenMode) (q c : Octet) (d : List Octet) : (buildLa m q c d).length ≤ d.length + 6 := by
  have := octets_length_le (builtLen m 3 (3 + d.length))
  simp [buildLa, packetOctets_length]; omega

/-! ## Receive queue -/

theorem withRxRoom_full {s : State} (h : s.rxq.length = s.params.rxqDepth) (t : State) :
    withRxRoom s t = rxOverflow s := by
  simp [withRxRoom, rxqFull, h]

theorem withRxRoom_room {s : State} (h : s.rxq.length ≠ s.params.rxqDepth) (t : State) : withRxRoom s t = t := by
  simp [withRxRoom, rxqFull, h]

/-! ## Close -/

theorem closeLinkWith_closed {s : State} (h : s.linkOpen = false) (c : CloseCause) : closeLinkWith c s = s := by
  simp [closeLinkWith, h]

theorem closeLinkWith_open {s : State} (h : s.linkOpen = true) (c : CloseCause) :
    closeLinkWith c s = closeOpenLink c s := by
  simp [closeLinkWith, h]

/-- The interrupt bits a close leaves set (R285). -/
def closeMask : CloseCause → Octet
  | .host => 0x10
  | .timeout => 0x30
  | .eos => 0x50

/-- Everything the close sequence does to an open link. -/
theorem closeOpenLink_eq (c : CloseCause) (s : State) :
    closeOpenLink c s =
      { s with
        txq := [], pendingValid := false, pendingKind := none, pendingSeq := 0, attempts := 0, pendPayload := [],
        ackMatch := false, timer := 0, stArb := .idle, stTxf := .idle, txWire := [], txIdx := 0,
        rxAcc := [], rxCrc := 0, fcsLo := 0, stRxd := .hunt0, linkOpen := false, closeCause := some c,
        irqStatus := s.irqStatus ||| closeMask c } := by
  cases c
  · rfl
  · simp only [closeOpenLink, closeIrqs, irqSet, BitVec.or_assoc]; rfl
  · simp only [closeOpenLink, closeIrqs, irqSet, BitVec.or_assoc]; rfl

/-- Everything OPEN does to a closed link. -/
theorem openSession_eq (s : State) :
    openSession s =
      { s with
        txSeq := 0, rxLast := 0, lastAckSeq := 0, lastCredit := 0, laSeen := false, txq := [], rxq := [],
        pendingValid := false, pendingKind := none, pendingSeq := 0, needsAck := false, pendPayload := [], attempts := 0,
        ackMatch := false, timer := 0, stArb := .idle, stTxf := .idle, txWire := [], txIdx := 0,
        rxAcc := [], rxCrc := 0, fcsLo := 0, stRxd := .hunt0, eosSeen := false, closeCause := none, linkOpen := true } := by
  simp only [openSession, rxdIdle, txfAbort, arbIdle, clearPending, seqResetRx, seqResetTx]

/-! ## Outcomes and turns -/

theorem thenNext_eq_next {f : State → State} {r : Host.Outcome State Fault Refusal} {t : State} :
    thenNext f r = .next t ↔ ∃ s, r = .next s ∧ t = f s := by
  cases r <;> simp [thenNext, eq_comm]

/-- Every instruction answers a next state. -/
theorem exec_next (i : Instr) (s : State) : ∃ t, exec i s = .next t := by
  cases i <;> exact ⟨_, rfl⟩

/-- The action on a good payload answers a next state. -/
theorem frameGood_next (p : List Octet) (s : State) : ∃ t, frameGood p s = .next t := by
  unfold frameGood
  split
  · exact exec_next _ _
  · exact ⟨_, rfl⟩

/-- RXD takes an octet in one of the ways of R181 to R191. -/
theorem rxdOctet_cases {o : Octet} {s t : State} (h : rxdOctet o s = .next t) :
    (s.stRxd = .hunt0 ∧ t = rxdHunt0 o s) ∨ (s.stRxd = .hunt1 ∧ t = rxdHunt1 o s) ∨
    (s.stRxd = .hunt2 ∧ t = rxdHunt2 o s) ∨ (s.stRxd = .data ∧ t = rxdData o s) ∨
    (s.stRxd = .esc ∧ t = rxdEsc o s) ∨ (s.stRxd = .fcs1 ∧ t = rxdFcs1 o s) ∨
    (s.stRxd = .fcs2 ∧ trailerGood o s = true ∧ ∃ u, frameGood s.rxAcc s = .next u ∧ t = rxdIdle u) ∨
    (s.stRxd = .fcs2 ∧ trailerGood o s = false ∧ t = frameError .crc s) := by
  unfold rxdOctet at h
  cases hs : s.stRxd <;> rw [hs] at h
  · simp_all
  · simp_all
  · simp_all
  · simp_all
  · simp_all
  · simp_all
  · cases ht : trailerGood o s
    · simp only [rxdFcs2, ht] at h
      simp_all
    · simp only [rxdFcs2, ht] at h
      obtain ⟨u, hu, rfl⟩ := thenNext_eq_next.1 h
      simp [hu]

/-- RXD's turn: nothing, or one input taken on an open link (R180). -/
theorem rxdStep_cases {s t : State} (h : rxdStep s = .next t) :
    t = s ∨ ∃ x rest, s.linkOpen = true ∧ s.rxIn = x :: rest ∧ rxdTake x { s with rxIn := rest } = .next t := by
  unfold rxdStep at h
  split at h
  · split at h
    · exact .inl (by simpa using h.symm)
    · rename_i hopen _ x rest hin
      exact .inr ⟨x, rest, hopen, hin, h⟩
  · exact .inl (by simpa using h.symm)

/-- TXF's turn: nothing, or one octet emitted (R162, R163). -/
theorem txfStep_cases {s t : State} (h : txfStep s = .next t) :
    t = s ∨ ∃ o, s.stTxf = .busy ∧ s.txReady = true ∧ s.txWire[s.txIdx]? = some o ∧ t = txfEmit o s := by
  unfold txfStep at h
  split at h
  · rename_i hb
    split at h
    · rename_i o ho
      refine .inr ⟨o, ?_, ?_, ho, by simpa using h.symm⟩ <;> simp_all [txfBusy]
    · cases h
  · exact .inl (by simpa using h.symm)

/-- ARB's turn is no step, or exactly one transition of R271 to R284. -/
theorem arbStep_cases (s : State) :
    arbStep s = s ∨
    (s.linkOpen = true ∧
      ((∃ e rest, s.stArb = .idle ∧ s.txq = e :: rest ∧ arbStep s = arbPop e rest s) ∨
       (s.stArb = .hold ∧ s.ackMatch = false ∧ s.sendAllowed = true ∧ s.stTxf = .idle ∧ arbStep s = attemptStart s) ∨
       (s.stArb = .sending ∧ s.stTxf = .idle ∧ arbStep s = frameSent s) ∨
       ((s.stArb = .hold ∨ s.stArb = .wait) ∧ s.ackMatch = true ∧ arbStep s = completeAcked s) ∨
       (s.stArb = .wait ∧ s.ackMatch = false ∧ (s.sendAllowed = false ∨ s.timer = 0) ∧
         arbStep s = failedAttempt s))) := by
  have busy : ∀ u : TxfState, (u == .busy) = false → u = .idle := by intro u; cases u <;> decide
  by_cases ho : s.linkOpen = true
  · cases ha : s.stArb
    · cases hq : s.txq with
      | nil => exact .inl (by simp [arbStep, arbOpen, ho, ha, hq])
      | cons e rest => exact .inr ⟨ho, .inl ⟨e, rest, rfl, rfl, by simp [arbStep, arbOpen, ho, ha, hq]⟩⟩
    · cases hm : s.ackMatch
      · cases hg : (s.sendAllowed && !txfBusy s)
        · exact .inl (by simp only [arbStep, arbOpen, ho, ha, arbHold, hm, hg]; rfl)
        · refine .inr ⟨ho, .inr (.inl ⟨rfl, rfl, ?_, ?_, ?_⟩)⟩
          · simp_all
          · exact busy _ (by simp_all [txfBusy])
          · simp only [arbStep, arbOpen, ho, ha, arbHold, hm, hg]; rfl
      · exact .inr ⟨ho, .inr (.inr (.inr (.inl ⟨.inl rfl, rfl, by simp [arbStep, arbOpen, ho, ha, arbHold, hm]⟩)))⟩
    · cases hb : txfBusy s
      · exact .inr ⟨ho, .inr (.inr (.inl ⟨rfl, busy _ (by simpa [txfBusy] using hb),
          by simp [arbStep, arbOpen, ho, ha, hb]⟩))⟩
      · exact .inl (by simp [arbStep, arbOpen, ho, ha, hb])
    · cases hm : s.ackMatch
      · cases hs : s.sendAllowed
        · exact .inr ⟨ho, .inr (.inr (.inr (.inr ⟨rfl, rfl, .inl rfl,
            by simp [arbStep, arbOpen, ho, ha, arbWait, hm, hs]⟩)))⟩
        · by_cases ht : s.timer = 0
          · exact .inr ⟨ho, .inr (.inr (.inr (.inr ⟨rfl, rfl, .inr ht,
              by simp [arbStep, arbOpen, ho, ha, arbWait, hm, hs, ht]⟩)))⟩
          · exact .inl (by simp only [arbStep, arbOpen, ho, ha, arbWait, hm, hs, if_neg ht]; rfl)
      · exact .inr ⟨ho, .inr (.inr (.inr (.inl ⟨.inr rfl, rfl, by simp [arbStep, arbOpen, ho, ha, arbWait, hm]⟩)))⟩
  · exact .inl (by simp [arbStep, ho])

/-- A step does nothing, or what the head of the schedule says. -/
theorem step_cases {s t : State} (h : step s = .next t) :
    (s.schedule = [] ∧ t = s) ∨
    ∃ e rest, s.schedule = e :: rest ∧ runEvent e { s with schedule := rest } = .next t := by
  unfold step at h
  split at h
  · rename_i hs
    exact .inl ⟨hs, by simpa using h.symm⟩
  · rename_i e rest hs
    exact .inr ⟨e, rest, hs, h⟩

end Sys2Proof.Machine
end

