-- ==== Sys2Proof/Laws/PerInstr.lean ====
section
/-! SUPPORT. One family of per-instruction laws: the encoded form of a well-formed instruction is selected by its row of
spec/opcode_table.json, `(w & mask) == match` (30_encoding.md R125). -/

namespace Sys2Proof.Laws.RowMatch

open Sys2Proof

/-- The mask and match of each row. -/
def row : Instr → Nat × Nat
  | .nop => (0xFFFFFFFF, 0x00000000)
  | .sendLr => (0xFFFFFFFF, 0x00000001)
  | .sendLd => (0xFFFFFFFF, 0x00000002)
  | .sendLt => (0xFFFFFFFF, 0x00000004)
  | .sendLa _ _ _ => (0xFE0000FF, 0x00000005)
  | .closeLink => (0xFFFFFFFF, 0x00000008)
  | .openLink => (0xFFFFFFFF, 0x00000009)
  | .rxRelease => (0xFFFFFFFF, 0x0000000A)
  | .clrCounters => (0xFFFFFFFF, 0x0000000B)
  | .rxLr _ _ => (0xFF, 0x01)
  | .rxLd _ _ => (0xFF, 0x02)
  | .rxLt _ _ _ => (0xFF, 0x04)
  | .rxLa _ _ _ _ => (0xFF, 0x05)

/-- The bits a row looks at: a command word, or the octet at the type offset (43_packet_header.md R214). -/
def rowBits : Code → Nat
  | .cmd w => w.toNat
  | .pkt p => (p.getD (if p.getD 0 0 = 0xFF#8 then 3 else 1) 0).toNat

/-- A well-formed instruction's code is selected by its row. -/
def Statement (i : Instr) : Prop := i.wf = true → rowBits (encode i) &&& (row i).1 = (row i).2

/-- The type code of a payload stands after its length field. -/
theorem rowBits_packetOctets {len : LenField} {body : List Octet} (ty : Octet) (h : packetWf len body = true) :
    rowBits (.pkt (packetOctets len ty body)) = ty.toNat := by
  cases len with
  | short l =>
    have hl : l ≠ 0xFF#8 := by
      simp only [packetWf, LenField.wf, Bool.and_eq_true] at h
      simpa using h.1
    simp [rowBits, packetOctets, LenField.octets, hl]
  | extended n => simp [rowBits, packetOctets, LenField.octets]

theorem nop : Statement .nop := by intro _; decide
theorem sendLr : Statement .sendLr := by intro _; decide
theorem sendLd : Statement .sendLd := by intro _; decide
theorem sendLt : Statement .sendLt := by intro _; decide

/-- The bits of SEND_LA's row, read off the word. -/
theorem sendLa (a b : Octet) (d : Bool) : Statement (.sendLa a b d) := by
  intro _
  have bits : sendLaWord a b d &&& 0xFE0000FF#32 = 0x00000005#32 := by
    apply BitVec.eq_of_getLsbD_eq
    intro i hi
    simp only [sendLaWord, BitVec.getLsbD_and, BitVec.getLsbD_append]
    interval_cases i <;> simp
  simpa [rowBits, encode, row] using congrArg BitVec.toNat bits

theorem closeLink : Statement .closeLink := by intro _; decide
theorem openLink : Statement .openLink := by intro _; decide
theorem rxRelease : Statement .rxRelease := by intro _; decide
theorem clrCounters : Statement .clrCounters := by intro _; decide

theorem rxLr (len : LenField) (body : List Octet) : Statement (.rxLr len body) := by
  intro h
  simp only [encode, row]
  rw [rowBits_packetOctets _ h]
  rfl

theorem rxLd (len : LenField) (body : List Octet) : Statement (.rxLd len body) := by
  intro h
  simp only [encode, row]
  rw [rowBits_packetOctets _ h]
  rfl

theorem rxLt (len : LenField) (seq : Octet) (data : List Octet) : Statement (.rxLt len seq data) := by
  intro h
  simp only [encode, row]
  rw [rowBits_packetOctets _ h]
  rfl

theorem rxLa (len : LenField) (seq credit : Octet) (data : List Octet) : Statement (.rxLa len seq credit data) := by
  intro h
  simp only [encode, row]
  rw [rowBits_packetOctets _ h]
  rfl

end Sys2Proof.Laws.RowMatch
end

