-- ==== Sys2Proof/Laws/Words.lean ====
section
/-! SUPPORT. The octets of 16-bit words, the word an offset reaches, and the terms of Safety.lean beside the operations they restate. -/

namespace Sys2Proof

/-- The high octet of two octets side by side. -/
@[simp] theorem high_octet_append (h l : Octet) : (h ++ l : BitVec 16).extractLsb' 8 8 = h := by
  apply BitVec.eq_of_getLsbD_eq
  intro i hi
  simp only [BitVec.getLsbD_extractLsb', BitVec.getLsbD_append]
  simp [hi]

/-- The low octet of two octets side by side. -/
@[simp] theorem low_octet_append (h l : Octet) : (h ++ l : BitVec 16).extractLsb' 0 8 = l := by
  apply BitVec.eq_of_getLsbD_eq
  intro i hi
  simp only [BitVec.getLsbD_extractLsb', BitVec.getLsbD_append]
  simp [hi]

/-- A 16-bit word is its two octets. -/
@[simp] theorem octets_append (n : Word16) : (n.extractLsb' 8 8 ++ n.extractLsb' 0 8 : BitVec 16) = n := by
  apply BitVec.eq_of_getLsbD_eq
  intro i hi
  simp only [BitVec.getLsbD_append, BitVec.getLsbD_extractLsb']
  by_cases h : i < 8
  · simp [h]
  · simp [h, show i - 8 < 8 by omega, show 8 + (i - 8) = i by omega]

/-- OP as a number (30_encoding.md R120). -/
theorem opField_toNat (w : Word) : (opField w).toNat = w.toNat % 256 := by
  simp [opField, BitVec.extractLsb'_toNat]

/-- Bits [31:8] are 0 (R124). -/
theorem reservedPlain_iff (w : Word) : w.extractLsb' 8 24 = 0#24 ↔ w.toNat / 256 = 0 := by
  rw [← BitVec.toNat_inj]
  simp [BitVec.extractLsb'_toNat, Nat.shiftRight_eq_div_pow]
  have := w.isLt
  omega

/-- Bits [31:25] are 0 (R124). -/
theorem reservedSendLa_iff (w : Word) : w.extractLsb' 25 7 = 0#7 ↔ w.toNat / 2 ^ 25 = 0 := by
  rw [← BitVec.toNat_inj]
  simp [BitVec.extractLsb'_toNat, Nat.shiftRight_eq_div_pow]
  have := w.isLt
  omega

namespace Machine

/-- The saturating increment as arithmetic (00_scope.md R12). -/
theorem sat16Inc_eq_countOne (c : Word16) : sat16Inc c = countOne c := by
  unfold sat16Inc countOne
  apply BitVec.eq_of_toNat_eq
  have := c.isLt
  split_ifs with h
  · subst h; rfl
  · have : c.toNat ≠ 65535 := fun h' => h (BitVec.eq_of_toNat_eq h')
    simp
    omega

theorem rxOverflow_eq (s : State) : rxOverflow s = { s with cntRxOverflow := countOne s.cntRxOverflow } := by
  simp [rxOverflow, sat16Inc_eq_countOne]

theorem laReceive_eq (q c : Octet) (s : State) : laReceive q c s = laRecordedState q c s := by
  simp only [laReceive, laRecordedState, laMatches]
  congr 2
  rw [Bool.eq_iff_iff]
  simp [and_assoc]

theorem deliver_eq (k : RxKind) (q c : Octet) (p : List Octet) (s : State) :
    deliver k q c p s = deliveredState k q c p s := rfl

/-- Offset bits [1:0] are ignored (20_memory.md R70). -/
theorem wordOffset_eq (addr : Offset) : wordOffset addr = addr.toNat / 4 * 4 := by
  have mask : ∀ i < 14, (0x3FFC#14).getLsbD i = decide (2 ≤ i) := by decide
  have h : addr &&& 0x3FFC#14 = addr >>> 2 <<< 2 := BitVec.eq_of_getLsbD_eq fun i hi => by
    by_cases h2 : 2 ≤ i
    · simp [mask i hi, h2, hi, show ¬ i < 2 by omega]
    · simp [mask i hi, h2, show i < 2 by omega]
  have := addr.isLt
  simp only [wordOffset, h, BitVec.toNat_shiftLeft, BitVec.toNat_ushiftRight, Nat.shiftLeft_eq, Nat.shiftRight_eq_div_pow]
  omega

end Machine

end Sys2Proof
end

