-- ==== Sys2Proof/Tests/Slice0.lean ====
section
/-! SUPPORT. Tests of the model, each on one decoding, one operation or one step, their expected values taken from the spec
(the vector or rule each names), and one named witness for each hypothesis of the statements. -/

namespace Sys2Proof.Tests

open Sys2Proof Sys2Proof.Machine

/-! ## Small states -/

/-- The defaults of 95_test_vectors.md, with a timeout of 3 ticks. -/
def testParams : Params :=
  { maxpkt := 1024, txqDepth := 8, rxqDepth := 4, tAck := 3, lenMode := .remainder, crcVariant := .arc }

/-- After reset. -/
def closed : State := State.resetWith testParams

/-- After OPEN. -/
def opened : State := { closed with linkOpen := true }

/-- Open, with `41 42` staged. -/
def staged : State := { opened with txBuf := [(0, 0x41), (1, 0x42)], txLen := 2 }

/-- The entry a SEND_LT of `41 42` after OPEN queues (95_test_vectors.md section 2.4). -/
def ltEntry : TxEntry := { kind := .lt, seq := 1, payload := [0x04, 0x04, 0x01, 0x41, 0x42] }

/-- Open, with that LT pending and its first attempt emitted (V-A1). -/
def waiting : State :=
  { opened with
    txSeq := 1, pendingValid := true, pendingKind := some .lt, pendingSeq := 1, needsAck := true,
    pendPayload := ltEntry.payload, attempts := 1, timer := 3, stArb := .wait }

/-- Open, with the same LT pending in HOLD before its first attempt. -/
def holding : State := { waiting with attempts := 0, timer := 0, stArb := .hold }

/-- An LA(1, 8) as RXQ holds it. -/
def laEntry : RxEntry := { kind := .la, seq := 1, credit := 8, payload := [0x03, 0x05, 0x01, 0x08] }

/-- Open, with one LA received. -/
def received : State := { opened with rxq := [laEntry] }

/-- Open, with RXQ full. -/
def rxFull : State := { opened with rxq := List.replicate 4 laEntry }

/-- Open, with TXQ full. -/
def txFull : State := { staged with txq := List.replicate 8 ltEntry }

/-- The state an outcome answers. -/
def after (r : Host.Outcome State Fault Refusal) : Option State :=
  match r with
  | .next t => some t
  | .fault _ => none
  | .refused _ => none

/-! ## WellFormed: ill-formed terms that the checks refuse -/

theorem test_wf_refuses_short_length_ff : (Instr.rxLr (.short 0xFF) []).wf = false := by decide
theorem test_wf_refuses_short_length_ff_lt : (Instr.rxLt (.short 0xFF) 0x01 []).wf = false := by decide
theorem test_wf_accepts_short_length_fe : (Instr.rxLa (.short 0xFE) 0x01 0x08 []).wf = true := by decide
theorem test_wf_refuses_overlong_payload : packetWf (.short 0x00) (List.replicate 4095 0x00) = false := by
  simp only [packetWf, LenField.size, List.length_replicate]
  decide
theorem test_wf_accepts_longest_payload : packetWf (.extended 0x0000) (List.replicate 4092 0x00) = true := by
  simp only [packetWf, LenField.size, List.length_replicate]
  decide

/-! ## Decoding: words and payloads written out from 30_encoding.md R120, R122, R108 to R111 -/

theorem test_decode_nop : decode (.cmd 0b00000000_00000000_00000000_00000000) = .ok .nop := by rfl
theorem test_decode_send_lr : decode (.cmd 0b00000000_00000000_00000000_00000001) = .ok .sendLr := by rfl
theorem test_decode_send_ld : decode (.cmd 0b00000000_00000000_00000000_00000010) = .ok .sendLd := by rfl
theorem test_decode_send_lt : decode (.cmd 0b00000000_00000000_00000000_00000100) = .ok .sendLt := by rfl
theorem test_decode_send_la :
    decode (.cmd 0b0000000_1_10000001_01000010_00000101) = .ok (.sendLa 0x42 0x81 true) := by rfl
theorem test_decode_close : decode (.cmd 0b00000000_00000000_00000000_00001000) = .ok .closeLink := by rfl
theorem test_decode_open : decode (.cmd 0b00000000_00000000_00000000_00001001) = .ok .openLink := by rfl
theorem test_decode_rx_release : decode (.cmd 0b00000000_00000000_00000000_00001010) = .ok .rxRelease := by rfl
theorem test_decode_clr_counters : decode (.cmd 0b00000000_00000000_00000000_00001011) = .ok .clrCounters := by rfl
/-- V-H1. -/
theorem test_decode_rx_lr :
    decode (.pkt [0x04, 0x01, 0x02, 0x01, 0x06]) = .ok (.rxLr (.short 0x04) [0x02, 0x01, 0x06]) := by rfl
/-- V-H2. -/
theorem test_decode_rx_ld : decode (.pkt [0x02, 0x02, 0x01]) = .ok (.rxLd (.short 0x02) [0x01]) := by rfl
/-- V-H4, with two data octets and a length whose octets differ: the high octet comes first (R108). -/
theorem test_decode_rx_lt_extended :
    decode (.pkt [0xFF, 0x01, 0x02, 0x04, 0x07, 0x41, 0x42]) = .ok (.rxLt (.extended 0x0102) 0x07 [0x41, 0x42]) := by
  rfl
/-- V-E10. -/
theorem test_decode_rx_la :
    decode (.pkt [0x04, 0x05, 0x01, 0x08, 0xAA]) = .ok (.rxLa (.short 0x04) 0x01 0x08 [0xAA]) := by rfl
/-- V-K9, V-K10. -/
theorem test_decode_refuses_reserved_bits :
    decode (.cmd 0x00000104) = .error .reservedBits ∧ decode (.cmd 0x02000005) = .error .reservedBits := by
  constructor <;> rfl
/-- The opcode is checked before the reserved bits (R125). -/
theorem test_decode_refuses_illegal_opcode :
    decode (.cmd 0xFFFFFF03) = .error .illegalOpcode ∧ decode (.cmd 0x0000000C) = .error .illegalOpcode := by
  constructor <;> rfl
/-- V-H7, V-H8, V-H9, V-H10, V-H11 and R214's `FF 00`. -/
theorem test_decode_refuses_other_payloads :
    decode (.pkt []) = .error .noTypeCode ∧ decode (.pkt [0x01]) = .error .noTypeCode ∧
    decode (.pkt [0xFF, 0x00]) = .error .noTypeCode ∧ decode (.pkt [0x02, 0x04]) = .error .ltWithoutSequence ∧
    decode (.pkt [0x02, 0x05, 0x01]) = .error .laWithoutCredit ∧
    decode (.pkt [0x02, 0x06, 0x01]) = .error .unknownType := by
  refine ⟨rfl, rfl, rfl, rfl, rfl, rfl⟩

/-- `ACK 0x01, 0x08` is the word 0x00080105 (R126, R316). -/
theorem test_encode_send_la : encode (.sendLa 0x01 0x08 false) = .cmd 0x00080105 := by rfl
theorem test_encode_rx_lt_extended :
    encode (.rxLt (.extended 0x0102) 0x01 [0x41]) = .pkt [0xFF, 0x01, 0x02, 0x04, 0x01, 0x41] := by rfl

/-- opcode_table.json rows SEND_LA and RX_LA. -/
theorem test_table_words :
    decodeTableWord 32 0x00000005 = some (.sendLa 0 0 false) ∧
    decodeTableWord 8 0x05 = some (.rxLa (.short 0x03) 0 0 []) := by
  constructor <;> rfl

/-! ## CRC and frames (95_test_vectors.md sections 2.1, 2.2) -/

/-- V-C2, V-C4. -/
theorem test_crc_update :
    arcUpdate 0 0x03 = 0x0140 ∧ arcUpdate 0 0x10 = 0xCC01 ∧ arcUpdate 0 0xFF = 0x4040 := by
  refine ⟨?_, ?_, ?_⟩ <;> rfl
set_option maxRecDepth 8000 in
/-- V-C1. -/
theorem test_crc_check_value :
    crc16 .arc [0x31, 0x32, 0x33, 0x34, 0x35, 0x36, 0x37, 0x38, 0x39] = 0xBB3D := by rfl
set_option maxRecDepth 8000 in
/-- R149: the same check value in the Rocksoft form. -/
theorem test_rocksoft_check_value :
    crc16 (.rocksoft 0x8005 0x0000 true true 0x0000) [0x31, 0x32, 0x33, 0x34, 0x35, 0x36, 0x37, 0x38, 0x39] = 0xBB3D := by
  rfl
set_option maxRecDepth 8000 in
/-- V-E8: a start delimiter in the data; only DLE is stuffed. -/
theorem test_encode_frame_start_in_data :
    encodeFrame .arc [0x05, 0x04, 0x01, 0x16, 0x10, 0x02] =
      [0x16, 0x10, 0x02, 0x05, 0x04, 0x01, 0x16, 0x10, 0x10, 0x02, 0x10, 0x03, 0x2D, 0xA8] := by rfl
set_option maxRecDepth 8000 in
/-- V-E2, by the incremental generator of R166, started with a stale CRC. -/
theorem test_incremental_generator :
    encRun .arc [0x10] 20 0xFFFF .start0 = [0x16, 0x10, 0x02, 0x10, 0x10, 0x10, 0x03, 0x4D, 0xC1] := by rfl

/-! ## Built headers (95_test_vectors.md sections 2.2, 2.4) -/

/-- Section 2.4 and V-E19. -/
theorem test_build_lt :
    buildLt .remainder 0x01 [0x41, 0x42] = [0x04, 0x04, 0x01, 0x41, 0x42] ∧
    buildLt .header 0x01 [0x41, 0x42] = [0x02, 0x04, 0x01, 0x41, 0x42] := by
  constructor <;> rfl
/-- V-E10 and V-E20. -/
theorem test_build_la :
    buildLa .remainder 0x01 0x08 [0xAA] = [0x04, 0x05, 0x01, 0x08, 0xAA] ∧
    buildLa .header 0x01 0x08 [0xAA] = [0x03, 0x05, 0x01, 0x08, 0xAA] := by
  constructor <;> rfl
/-- R211: 252 data octets give the short form, 253 the extended form `FF 00 FF`; S-8.8: 256 give `FF 01 02`. -/
theorem test_built_length_forms :
    builtLen .remainder 2 (2 + 252) = .short 0xFE ∧ builtLen .remainder 2 (2 + 253) = .extended 0x00FF ∧
    (builtLen .remainder 2 (2 + 256)).octets = [0xFF, 0x01, 0x02] := by decide

/-! ## Commands, each placed and run as the first instruction after reset, or on a small state -/

/-- A NOP clears a previous code but not IRQ_STATUS.CMD_ERR (R312). -/
theorem test_nop_clears_code :
    (after (exec .nop { closed with cmdErr := .rxqEmpty, irqStatus := 0x80 })).map
      (fun t => (t.cmdErr, t.irqStatus)) = some (.ok, 0x80) := by decide
/-- V-S3: SEND_LR resets TX_SEQ and queues the staged octets unchanged (R313). -/
theorem test_send_lr_queues_staged_octets :
    (after (exec .sendLr { staged with txSeq := 5 })).map (fun t => (t.txSeq, t.txq)) =
      some (0, [{ kind := .lr, seq := 0, payload := [0x41, 0x42] }]) := by decide
/-- V-K13: TX_LEN 1025 with MAXPKT 1024. -/
theorem test_send_lr_bad_length :
    (after (exec .sendLr { staged with txLen := 1025 })).map (fun t => (t.cmdErr, t.irqStatus, t.txSeq)) =
      some (.badLength, 0x80, 0) := by decide
/-- R314: TX_SEQ is left alone. -/
theorem test_send_ld_keeps_sequence :
    (after (exec .sendLd { staged with txSeq := 5 })).map (fun t => (t.txSeq, t.txq)) =
      some (5, [{ kind := .ld, seq := 0, payload := [0x41, 0x42] }]) := by decide
/-- R315's example. -/
theorem test_send_lt_queues_built_packet :
    (after (exec .sendLt staged)).map (fun t => (t.txSeq, t.txq)) = some (1, [ltEntry]) := by decide
/-- V-S2: the sequence wraps from 255 to 0. -/
theorem test_send_lt_wraps :
    (after (exec .sendLt { staged with txSeq := 0xFF })).map (fun t => (t.txSeq, t.txq.map TxEntry.seq)) =
      some (0, [0]) := by decide
/-- R316's example, and D = 1 on the staged octets. -/
theorem test_send_la_with_and_without_data :
    (after (exec (.sendLa 1 8 false) staged)).map (fun t => t.txq.map TxEntry.payload) =
      some [[0x03, 0x05, 0x01, 0x08]] ∧
    (after (exec (.sendLa 1 8 true) staged)).map (fun t => t.txq.map TxEntry.payload) =
      some [[0x05, 0x05, 0x01, 0x08, 0x41, 0x42]] := by decide
/-- V-K14: the limit is MAXPKT − 7. -/
theorem test_send_la_bad_length :
    checkSendLa true { staged with txLen := 1018 } = .badLength ∧
    checkSendLa true { staged with txLen := 1017 } = .ok ∧
    checkSendLa false { staged with txLen := 1018 } = .ok := by decide
/-- R317's example: CLOSE while an LT is in WAIT. -/
theorem test_close_cuts_off_wait :
    (after (exec .closeLink waiting)).map (fun t => (t.linkOpen, t.closeCause, t.irqStatus, t.stArb, t.pendingValid)) =
      some (false, some .host, 0x10, .idle, false) := by decide
/-- V-K7: CLOSE on a closed link. -/
theorem test_close_closed_is_noop : after (exec .closeLink closed) = some closed := by decide
/-- R318's example: STATUS after OPEN with `send_allowed = 0`; R383: no bit of the old session's pending record is left. -/
theorem test_open_status :
    (after (exec .openLink { closed with sendAllowed := false, needsAck := true })).map
      (fun t => (statusWord t, t.needsAck)) = some (0x00000003, false) := by decide
/-- V-K5. -/
theorem test_open_refused_while_open :
    (after (exec .openLink opened)).map (fun t => (t.cmdErr, t.linkOpen)) = some (.alreadyOpen, true) := by decide
/-- R319's example. -/
theorem test_rx_release_empties :
    (after (exec .rxRelease received)).map (fun t => (t.rxq, rxHead0Word t)) = some ([], 0) := by decide
/-- V-K3. -/
theorem test_rx_release_refused :
    (after (exec .rxRelease closed)).map (fun t => (t.cmdErr, t.irqStatus)) = some (.rxqEmpty, 0x80) := by decide
/-- R320: a saturated counter returns to 0. -/
theorem test_clr_counters :
    (after (exec .clrCounters { closed with cntFrameErr := 0xFFFF, cntSeqDrop := 3, cntRxOverflow := 1 })).map
      (fun t => (t.cntFrameErr, t.cntSeqDrop, t.cntRxOverflow)) = some (0, 0, 0) := by decide

/-- V-K4: OPEN, placed and run as the first instruction after reset. -/
theorem test_first_step_open :
    (after (step (State.reset.withFetchWord 32 0x00000009))).map (fun t => (t.linkOpen, t.cmdErr, t.schedule)) =
      some (true, .ok, []) := by decide

/-! ## Received packets -/

/-- V-S7: RX_LAST is reset. -/
theorem test_rx_lr_resets_rx_last :
    (after (exec (.rxLr (.short 4) [2, 1, 6]) { opened with rxLast := 7 })).map
      (fun t => (t.rxLast, rxHead0Word t, t.irqStatus)) = some (0, 0x80010005, 0x01) := by decide
/-- V-H2: the link stays open. -/
theorem test_rx_ld_keeps_link_open :
    (after (exec (.rxLd (.short 2) [1]) opened)).map (fun t => (t.linkOpen, rxHead0Word t)) =
      some (true, 0x80020003) := by decide
/-- V-S4: RX_LAST 255, LT(0). -/
theorem test_rx_lt_accepts_wrap :
    (after (exec (.rxLt (.short 3) 0 [0x99]) { opened with rxLast := 0xFF })).map
      (fun t => (t.rxLast, rxHead0Word t)) = some (0, 0x80040004) := by decide
/-- V-S6: an LT from the future. -/
theorem test_rx_lt_drops_future :
    (after (exec (.rxLt (.short 3) 2 [0x43]) opened)).map (fun t => (t.rxLast, t.cntSeqDrop, t.rxq)) =
      some (0, 1, []) := by decide
/-- V-S8 and V-H5. -/
theorem test_rx_la_acknowledges :
    (after (exec (.rxLa (.short 3) 1 8 []) waiting)).map (fun t => (t.ackMatch, ackStateWord t, rxHead1Word t)) =
      some (true, 0x00010801, 0x00000801) := by decide
/-- V-A13: RXQ full, the LA still acknowledges. -/
theorem test_rx_la_acknowledges_when_full :
    (after (exec (.rxLa (.short 3) 1 8 []) { waiting with rxq := rxFull.rxq })).map
      (fun t => (t.ackMatch, t.cntRxOverflow, t.rxq.length)) = some (true, 1, 4) := by decide

/-- The row RX_LD, placed and run as the first instruction after reset. -/
theorem test_first_step_rx_ld :
    (after (step (State.reset.withFetchWord 8 0x02))).map (fun t => (rxHead0Word t, t.stRxd, t.rxIn)) =
      some (0x80020004, .hunt0, []) := by decide

/-! ## Agents and the register space -/

/-- V-D5: STX after the escape is FrameError(ESCAPE). -/
theorem test_rxd_escape_error :
    (after (rxdStep { opened with stRxd := .esc, rxAcc := [0x41], rxIn := [.octet 0x02] })).map
      (fun t => (t.stRxd, t.cntFrameErr, t.rxAcc, t.irqStatus)) = some (.hunt0, 1, [], 0) := by decide
/-- V-D2: the second SYN resets the hunt. -/
theorem test_rxd_hunt_resets :
    (after (rxdStep { opened with stRxd := .hunt1, rxIn := [.octet 0x16] })).map (fun t => t.stRxd) = some .hunt0 := by
  decide
/-- V-D12: EOS in FCS2. -/
theorem test_rxd_eos_closes :
    (after (rxdStep { opened with stRxd := .fcs2, rxAcc := [0x03], rxIn := [.eos] })).map
      (fun t => (statusWord t, t.irqStatus, t.cntFrameErr)) = some (0x00003062, 0x50, 0) := by decide
/-- V-A2 and V-A11: a failed attempt, and the last one. -/
theorem test_arb_failed_attempt :
    arbStateWord (arbStep { waiting with timer := 0 }) = 0x04010109 ∧
    (arbStep { waiting with timer := 0, attempts := 5 }).irqStatus = 0x30 := by decide
/-- V-A3: the next attempt starts. -/
theorem test_arb_attempt_start :
    arbStateWord (arbStep { holding with attempts := 1 }) = 0x0401020A ∧
    (arbStep { holding with attempts := 1 }).irqStatus = 0x02 := by
  constructor <;> rfl
/-- R281's corner: the timer never goes below 0. -/
theorem test_tick_stops_at_zero : (tmrTick { waiting with timer := 0 }).timer = 0 ∧ (tmrTick waiting).timer = 2 := by
  decide
/-- V-K16, V-K17. -/
theorem test_warl_registers :
    legalRetry 0 = 1 ∧ legalRetry 0xFF = 0xFF ∧ legalMaxinfo testParams 0 = 1 ∧ legalMaxinfo testParams 0xFFFF = 1019 ∧
    legalMaxinfo testParams 0x0100 = 256 := by decide
/-- V-H3: octet 0 lies in bits [7:0]. -/
theorem test_rx_buf_byte_order :
    memRead { opened with rxq := [{ kind := .lt, seq := 1, credit := 0, payload := [0x03, 0x04, 0x01, 0x41] }] } 0x2000 =
      0x41010403 := by decide
/-- R73: a word written to TX_BUF, lowest octet first. -/
theorem test_tx_buf_byte_order :
    (writeTxBufWord 4 0x44332211 closed).txBuf = [(4, 0x11), (5, 0x22), (6, 0x33), (7, 0x44)] := by decide
/-- Section 2.8: STATUS after reset. -/
theorem test_status_after_reset :
    memRead closed 0x008 = 0x00000022 ∧ memRead { closed with sendAllowed := false } 0x008 = 0x00000002 := by decide


/-! ## States that satisfy the invariant -/

theorem inv_closed : closed.Inv where
  config := ⟨by decide, by decide, by decide, by decide⟩
  memory := ⟨by decide, by simp [closed, State.resetWith]⟩
  queues := ⟨by decide, by decide, by decide, by decide, by decide⟩
  rxd := ⟨by decide, by decide, by decide, by decide, by decide⟩
  txf := ⟨by decide, by intro h; exact absurd h (by decide)⟩
  arb := ⟨by decide, by decide, by intro h; exact absurd h (by decide), by decide, by decide, by decide, by decide,
    by decide, by decide, by decide⟩
  link := ⟨by decide, by decide, by decide, by decide⟩

/-- Packets at the head of RXQ. -/
theorem inv_received : received.Inv where
  config := ⟨by decide, by decide, by decide, by decide⟩
  memory := ⟨by decide, by simp [received, opened, closed, State.resetWith]⟩
  queues := ⟨by decide, by decide, by decide, by decide, by decide⟩
  rxd := ⟨by decide, by decide, by decide, by decide, by decide⟩
  txf := ⟨by decide, by intro h; exact absurd h (by decide)⟩
  arb := ⟨by decide, by decide, by intro h; exact absurd h (by decide), by decide, by decide, by decide, by decide,
    by decide, by decide, by decide⟩
  link := ⟨by decide, by decide, by decide, by decide⟩

/-- An acknowledged packet in WAIT, ARB's turn next. -/
def acked : State := { waiting with ackMatch := true, schedule := [.arb] }

theorem inv_acked : acked.Inv where
  config := ⟨by decide, by decide, by decide, by decide⟩
  memory := ⟨by decide, by simp [acked, waiting, opened, closed, State.resetWith]⟩
  queues := ⟨by decide, by decide, by decide, by decide, by decide⟩
  rxd := ⟨by decide, by decide, by decide, by decide, by decide⟩
  txf := ⟨by decide, by intro h; exact absurd h (by decide)⟩
  arb := ⟨by decide, by decide, fun _ => ⟨.lt, by decide, by decide, by decide⟩, by decide, by decide, by decide,
    by decide, by decide, by decide, by decide⟩
  link := ⟨by decide, by decide, by decide, by decide⟩

/-! ## Witnesses: a state and operands that meet the hypotheses of each statement, each clause at a boundary -/

theorem witness_DecodeOfEncodeIsIdentity :
    Instr.nop.wf = true ∧ (Instr.sendLa 0xFF 0xFF true).wf = true ∧ (Instr.rxLr (.short 0xFE) []).wf = true ∧
    (Instr.rxLa (.extended 0xFFFF) 0xFF 0xFF [0x10]).wf = true := by decide

theorem witness_EncodeOfDecodeIsIdentity :
    decode (.cmd 0x01FFFF05) = .ok (.sendLa 0xFF 0xFF true) ∧
    decode (.pkt [0xFE, 0x04, 0xFF]) = .ok (.rxLt (.short 0xFE) 0xFF []) ∧
    decode (.pkt [0xFF, 0xFF, 0xFE, 0x01]) = .ok (.rxLr (.extended 0xFFFE) []) := by
  refine ⟨?_, ?_, ?_⟩ <;> rfl

theorem witness_MalformedCommandWordsRefused :
    ((0x00000003 : Word).toNat % 256 ∉ [0x00, 0x01, 0x02, 0x04, 0x05, 0x08, 0x09, 0x0A, 0x0B] ∧
      (0xFFFFFFFF : Word).toNat % 256 ∉ [0x00, 0x01, 0x02, 0x04, 0x05, 0x08, 0x09, 0x0A, 0x0B]) ∧
    ((0x00000100 : Word).toNat % 256 ∈ [0x00, 0x01, 0x02, 0x04, 0x08, 0x09, 0x0A, 0x0B] ∧
      (0x00000100 : Word).toNat / 256 ≠ 0) ∧
    ((0x8000000B : Word).toNat % 256 ∈ [0x00, 0x01, 0x02, 0x04, 0x08, 0x09, 0x0A, 0x0B] ∧
      (0x8000000B : Word).toNat / 256 ≠ 0) ∧
    ((0x02000005 : Word).toNat % 256 = 0x05 ∧ (0x02000005 : Word).toNat / 2 ^ 25 ≠ 0) := by decide

theorem witness_SingleBitFlipChangesFcs : 0 < ([0x10] : List Octet).length ∧ 7 < 8 := by decide

theorem witness_IncrementalGeneratorEqualsEncode :
    (encodeFrame .arc [0x10]).length ≤ 9 ∧ (encodeFrame .arc []).length ≤ 7 := by decide

/-- Both sides of the short and extended forms of LT (252, 253) and of LA (251, 252), and the longest data. -/
theorem witness_BuiltHeaders :
    ∃ a b c e : List Octet, (a.length ≤ 4096 ∧ a.length ≤ 251) ∧ (b.length ≤ 4096 ∧ 251 < b.length ∧ b.length ≤ 252) ∧
      (c.length ≤ 4096 ∧ 252 < c.length) ∧ e.length ≤ 4096 ∧ e.length = 4096 :=
  ⟨List.replicate 251 0, List.replicate 252 0, List.replicate 253 0, List.replicate 4096 0,
    by simp only [List.length_replicate]; decide⟩

/-- RXD in HUNT0, with the frame of `p` offered and scheduled. -/
def offered (p : List Octet) : State :=
  { opened with
    rxIn := (encodeFrame .arc p).map .octet ++ [.octet 0x00],
    schedule := List.replicate (encodeFrame .arc p).length .rxd ++ [.arb] }

theorem witness_RxdDecodesEncodedFrame (p : List Octet) (h : p.length ≤ 1024) :
    (offered p).linkOpen = true ∧ (offered p).stRxd = .hunt0 ∧ p.length ≤ (offered p).params.maxpkt ∧
    (offered p).rxIn = (encodeFrame (offered p).params.crcVariant p).map .octet ++ [.octet 0x00] ∧
    (offered p).schedule = List.replicate (encodeFrame (offered p).params.crcVariant p).length .rxd ++ [.arb] :=
  ⟨rfl, rfl, h, rfl, rfl⟩

/-- Every octet in every RXD state, the good trailer octet of V-D1 in FCS2 among them. -/
theorem witness_RxdTransitionTable (o : Octet) (st : RxdState) :
    ∃ s u : State, s.linkOpen = true ∧ s.rxIn = .octet o :: [] ∧ u = { s with rxIn := [] } ∧ s.stRxd = st ∧
      crcFinish s.params.crcVariant s.rxCrc = (0xCD : Octet) ++ s.fcsLo :=
  ⟨{ opened with rxIn := [.octet o], stRxd := st, rxCrc := 0xCD52, fcsLo := 0x52 }, _, rfl, rfl, rfl, rfl,
    show crcFinish .arc 0xCD52 = (0xCD : Octet) ++ (0x52 : Octet) by decide⟩

/-- A payload of MAXPKT octets, the longest RXD accumulates. -/
def longPayload : List Octet := List.replicate 1024 0x41

theorem longPayload_length : longPayload.length = 1024 := List.length_replicate

theorem witness_FrameErrorDropsAndCounts_escape :
    ∃ (s : State) (o : Octet), s.linkOpen = true ∧ s.rxIn = .octet o :: [] ∧
      s.stRxd = .esc ∧ o ≠ 0x10#8 ∧ o ≠ 0x03#8 :=
  ⟨{ opened with rxIn := [.octet 0x02], stRxd := .esc }, 0x02, by decide⟩

theorem witness_FrameErrorDropsAndCounts_overflow :
    ∃ (s : State) (o : Octet), s.linkOpen = true ∧ s.rxIn = .octet o :: [] ∧
      s.stRxd = .data ∧ o ≠ 0x10#8 ∧ s.rxAcc.length = s.params.maxpkt :=
  ⟨{ opened with rxIn := [.octet 0x41], stRxd := .data, rxAcc := longPayload }, 0x41, rfl, rfl, rfl, by decide,
    longPayload_length⟩

theorem witness_FrameErrorDropsAndCounts_stuffed_overflow :
    ∃ (s : State) (o : Octet), s.linkOpen = true ∧ s.rxIn = .octet o :: [] ∧
      s.stRxd = .esc ∧ o = 0x10#8 ∧ s.rxAcc.length = s.params.maxpkt :=
  ⟨{ opened with rxIn := [.octet 0x10], stRxd := .esc, rxAcc := longPayload }, 0x10, rfl, rfl, rfl, rfl,
    longPayload_length⟩

theorem witness_FrameErrorDropsAndCounts_crc :
    ∃ (s : State) (o : Octet), s.linkOpen = true ∧ s.rxIn = .octet o :: [] ∧
      s.stRxd = .fcs2 ∧ crcFinish s.params.crcVariant s.rxCrc ≠ o ++ s.fcsLo :=
  ⟨{ opened with rxIn := [.octet 0xCC], stRxd := .fcs2, rxCrc := 0xCD52, fcsLo := 0x52 }, 0xCC, by decide⟩

theorem witness_EndOfStreamClosesLink : ∃ s : State, s.linkOpen = true ∧ s.rxIn = .eos :: [] :=
  ⟨{ opened with rxIn := [.eos], stRxd := .fcs2 }, by decide⟩

theorem witness_ReceivedLrAndLdDelivered :
    opened.rxq.length ≠ opened.params.rxqDepth ∧
    encode (.rxLr (.short 0x04) [0x02, 0x01, 0x06]) = .pkt [0x04, 0x01, 0x02, 0x01, 0x06] ∧
    encode (.rxLd (.extended 0x0002) []) = .pkt [0xFF, 0x00, 0x02, 0x02] := by
  refine ⟨by decide, ?_, ?_⟩ <;> rfl

/-- The next LT in sequence at the wrap, and a duplicate. -/
theorem witness_ReceivedLtSequenceFilter :
    encode (.rxLt (.short 0x02) 0x00 []) = .pkt [0x02, 0x04, 0x00] ∧
    ∃ s t : State, (s.rxq.length ≠ s.params.rxqDepth ∧ (0x00 : Octet).toNat = (s.rxLast.toNat + 1) % 256) ∧
      (t.rxq.length ≠ t.params.rxqDepth ∧ (0x00 : Octet).toNat ≠ (t.rxLast.toNat + 1) % 256) :=
  ⟨rfl, { opened with rxLast := 0xFF }, opened, by decide⟩

/-- An LA that matches (V-S8), on a state where it is the last that RXQ has room for. -/
theorem witness_ReceivedLaRecordsAndMatches :
    encode (.rxLa (.short 0x03) 0x01 0x08 []) = .pkt [0x03, 0x05, 0x01, 0x08] ∧
    ∃ s : State, s.rxq.length ≠ s.params.rxqDepth ∧ s.rxq.length + 1 = s.params.rxqDepth ∧
      s.pendingValid = true ∧ s.pendingSeq = 0x01 :=
  ⟨rfl, { waiting with rxq := List.replicate 3 laEntry }, by decide⟩

theorem witness_FullReceiveQueueDropsPacket : rxFull.rxq.length = rxFull.params.rxqDepth := by decide

/-- Words with the lowest and the highest reserved bit set, for an OP without operands (NOP, RX_RELEASE). -/
theorem witness_CommandWord :
    ((0x00000100 : Word).toNat % 256 = 0x00 ∧ (0x00000100 : Word).toNat / 256 ≠ 0) ∧
    ((0x8000000A : Word).toNat % 256 = 0x0A ∧ (0x8000000A : Word).toNat / 256 ≠ 0) := by decide

/-- SEND_LA words: bit 25 set, and the largest legal word. -/
theorem witness_SendLaResult_words :
    ((0x02000005 : Word).toNat % 256 = 0x05 ∧ (0x02000005 : Word).toNat / 2 ^ 25 ≠ 0) ∧
    ((0x01FE8105 : Word).toNat % 256 = 0x05 ∧ (0x01FE8105 : Word).toNat / 2 ^ 25 = 0 ∧
      (0x01FE8105 : Word).toNat / 2 ^ 8 % 256 = (0x81 : Octet).toNat ∧
      (0x01FE8105 : Word).toNat / 2 ^ 16 % 256 = (0xFE : Octet).toNat ∧
      (0x01FE8105 : Word).toNat / 2 ^ 24 % 2 = true.toNat) := by decide

/-- SEND_LR and SEND_LD (one set of checks): closed, TX_LEN 0 and MAXPKT + 1, TXQ full at TX_LEN MAXPKT, and room at
TX_LEN 1. -/
theorem witness_SendLrResult_and_SendLdResult :
    closed.linkOpen = false ∧
    (opened.linkOpen = true ∧ opened.txLen.toNat = 0) ∧
    (∃ s : State, s.linkOpen = true ∧ s.params.maxpkt < s.txLen.toNat) ∧
    (∃ s : State, s.linkOpen = true ∧ 1 ≤ s.txLen.toNat ∧ s.txLen.toNat ≤ s.params.maxpkt ∧
      s.txq.length = s.params.txqDepth) ∧
    (∃ s : State, s.linkOpen = true ∧ 1 ≤ s.txLen.toNat ∧ s.txLen.toNat ≤ s.params.maxpkt ∧
      s.txq.length ≠ s.params.txqDepth) :=
  ⟨by decide, by decide, ⟨{ opened with txLen := 1025 }, by decide⟩, ⟨{ txFull with txLen := 1024 }, by decide⟩,
    ⟨{ opened with txLen := 1 }, by decide⟩⟩

/-- SEND_LT: closed, TX_LEN 0 and CFG_MAXINFO + 1, TXQ full at TX_LEN CFG_MAXINFO, and room at TX_LEN 1. -/
theorem witness_SendLtResult :
    closed.linkOpen = false ∧
    (opened.linkOpen = true ∧ opened.txLen.toNat = 0) ∧
    (∃ s : State, s.linkOpen = true ∧ s.cfgMaxinfo.toNat < s.txLen.toNat) ∧
    (∃ s : State, s.linkOpen = true ∧ 1 ≤ s.txLen.toNat ∧ s.txLen.toNat ≤ s.cfgMaxinfo.toNat ∧
      s.txq.length = s.params.txqDepth) ∧
    (∃ s : State, s.linkOpen = true ∧ 1 ≤ s.txLen.toNat ∧ s.txLen.toNat ≤ s.cfgMaxinfo.toNat ∧
      s.txq.length ≠ s.params.txqDepth) :=
  ⟨by decide, by decide, ⟨{ opened with txLen := 257 }, by decide⟩, ⟨{ txFull with txLen := 256 }, by decide⟩,
    ⟨{ opened with txLen := 1 }, by decide⟩⟩

/-- SEND_LA: closed; D = 1 with TX_LEN MAXPKT − 6; TXQ full with and without data; room at TX_LEN MAXPKT − 7. -/
theorem witness_SendLaResult :
    closed.linkOpen = false ∧
    (∃ s : State, s.linkOpen = true ∧ s.params.maxpkt - 7 < s.txLen.toNat) ∧
    (∃ s : State, s.linkOpen = true ∧ s.txLen.toNat ≤ s.params.maxpkt - 7 ∧ s.txq.length = s.params.txqDepth) ∧
    (∃ s : State, s.linkOpen = true ∧ s.txLen.toNat ≤ s.params.maxpkt - 7 ∧ s.txq.length ≠ s.params.txqDepth) :=
  ⟨by decide, ⟨{ opened with txLen := 1018 }, by decide⟩, ⟨{ txFull with txLen := 0 }, by decide⟩,
    ⟨{ opened with txLen := 1017 }, by decide⟩⟩

theorem witness_CloseCommandResult_and_OpenCommandResult : opened.linkOpen = true ∧ closed.linkOpen = false := by decide

theorem witness_RxReleaseResult : opened.rxq = [] ∧ received.rxq = laEntry :: [] := by decide

/-- TXQ has room for exactly the three LTs, and TX_SEQ 0xFE: the three carry 0xFF, 0x00 and 0x01. -/
theorem witness_SendLtNumbersConsecutively :
    ∃ s : State, s.linkOpen = true ∧ s.txSeq = 0xFE ∧ 1 ≤ s.txLen.toNat ∧ s.txLen.toNat ≤ s.cfgMaxinfo.toNat ∧
      s.txq.length + 3 ≤ s.params.txqDepth ∧ s.schedule = cmdWrites 3 0x00000004 ++ [.arb] :=
  ⟨{ staged with txSeq := 0xFE, txq := List.replicate 5 ltEntry, schedule := cmdWrites 3 0x00000004 ++ [.arb] },
    by decide⟩

/-- The most LTs that legal parameters queue at once, 255. -/
theorem witness_SendLtNumbersConsecutively_longest :
    ∃ s : State, s.params.wf = true ∧ s.linkOpen = true ∧ s.txSeq = 0x01 ∧ 1 ≤ s.txLen.toNat ∧
      s.txLen.toNat ≤ s.cfgMaxinfo.toNat ∧ s.txq.length + 255 ≤ s.params.txqDepth ∧
      s.schedule = cmdWrites 255 0x00000004 ++ [] :=
  ⟨{ staged with
      params := { testParams with txqDepth := 255 }, txSeq := 0x01, schedule := cmdWrites 255 0x00000004 ++ [] },
    by decide, rfl, rfl, by decide, by decide, by decide, rfl⟩

theorem witness_ArbPopsHeadOfQueue :
    ∃ s : State, s.linkOpen = true ∧ s.stArb = .idle ∧ s.txq = ltEntry :: [ltEntry] :=
  ⟨{ opened with txq := [ltEntry, ltEntry] }, by decide⟩

theorem witness_AttemptStartsFromHold :
    holding.linkOpen = true ∧ holding.stArb = .hold ∧ holding.ackMatch = false ∧ holding.sendAllowed = true ∧
    holding.stTxf = .idle := by decide

/-- The end of a frame of a packet that needs no acknowledgement, of an acknowledged one, and of one not yet
acknowledged. -/
theorem witness_EndOfFrameCompletesOrWaits :
    (∃ s : State, s.linkOpen = true ∧ s.stArb = .sending ∧ s.stTxf = .idle ∧ s.needsAck = false) ∧
    (∃ s : State, s.linkOpen = true ∧ s.stArb = .sending ∧ s.stTxf = .idle ∧ s.needsAck = true ∧ s.ackMatch = true) ∧
    (∃ s : State, s.linkOpen = true ∧ s.stArb = .sending ∧ s.stTxf = .idle ∧ s.needsAck = true ∧ s.ackMatch = false) :=
  ⟨⟨{ waiting with stArb := .sending, pendingKind := some .la, needsAck := false }, by decide⟩,
    ⟨{ waiting with stArb := .sending, ackMatch := true }, by decide⟩, ⟨{ waiting with stArb := .sending }, by decide⟩⟩

/-- Acknowledged in HOLD and in WAIT; failed by the timer with one attempt left, and by `send_allowed` with none. -/
theorem witness_AttemptIsAcknowledgedOrFails :
    (∃ s : State, s.linkOpen = true ∧ s.stArb = .hold ∧ s.ackMatch = true) ∧
    (∃ s : State, s.linkOpen = true ∧ s.stArb = .wait ∧ s.ackMatch = true) ∧
    (∃ s : State, s.linkOpen = true ∧ s.stArb = .wait ∧ s.ackMatch = false ∧ s.timer = 0 ∧
      s.attempts.toNat + 1 = s.cfgRetry.toNat) ∧
    (∃ s : State, s.linkOpen = true ∧ s.stArb = .wait ∧ s.ackMatch = false ∧ s.sendAllowed = false ∧
      s.cfgRetry.toNat = s.attempts.toNat) :=
  ⟨⟨{ holding with attempts := 1, ackMatch := true }, by decide⟩, ⟨acked, by decide⟩,
    ⟨{ waiting with timer := 0, attempts := 4 }, by decide⟩,
    ⟨{ waiting with sendAllowed := false, attempts := 5 }, by decide⟩⟩

/-- Each way an agent has no step. -/
theorem witness_DisabledAgentsHoldState :
    closed.linkOpen = false ∧ (opened.stArb = .idle ∧ opened.txq = []) ∧
    (∃ s : State, s.stArb = .hold ∧ s.ackMatch = false ∧ s.sendAllowed = false) ∧
    (∃ s : State, s.stArb = .sending ∧ s.stTxf = .busy ∧ s.txReady = false) ∧
    (waiting.stArb = .wait ∧ waiting.ackMatch = false ∧ waiting.sendAllowed = true ∧ waiting.timer ≠ 0) ∧
    opened.stTxf = .idle ∧ opened.rxIn = [] :=
  ⟨by decide, by decide, ⟨{ holding with sendAllowed := false }, by decide⟩,
    ⟨{ waiting with stArb := .sending, stTxf := .busy, txReady := false }, by decide⟩, by decide, by decide, by decide⟩

theorem witness_TickDecrementsTimerInWait :
    (∃ s : State, s.stArb = .wait ∧ 0 < s.timer.toNat ∧ s.timer = 1) ∧ holding.stArb ≠ .wait ∧
    (∃ s : State, s.stArb = .wait ∧ s.timer.toNat = 0) :=
  ⟨⟨{ waiting with timer := 1 }, by decide⟩, by decide, ⟨{ waiting with timer := 0 }, by decide⟩⟩

theorem witness_CloseSequenceIsIdempotent : waiting.linkOpen = true ∧ closed.linkOpen = false := by decide

theorem witness_TxfEmitsEncodedFrame (p : List Octet) :
    ∃ s : State, s.txReady = true ∧
      s.schedule = List.replicate (encodeFrame s.params.crcVariant p).length .txf ++ [.arb] :=
  ⟨{ holding with schedule := List.replicate (encodeFrame .arc p).length .txf ++ [.arb] }, rfl, rfl⟩

/-- The schedule of five attempts that nothing acknowledges. -/
def exhausting : State :=
  { holding with
    schedule := (List.replicate 5 (attemptEvents (encodeFrame .arc ltEntry.payload).length 3)).flatten ++ [.arb] }

theorem witness_RetryBudgetExhaustionClosesLink :
    exhausting.linkOpen = true ∧ exhausting.stArb = .hold ∧ exhausting.attempts = 0 ∧ exhausting.needsAck = true ∧
    exhausting.ackMatch = false ∧ exhausting.sendAllowed = true ∧ exhausting.txReady = true ∧
    exhausting.stTxf = .idle ∧ 1 ≤ exhausting.cfgRetry.toNat ∧
    exhausting.schedule = (List.replicate exhausting.cfgRetry.toNat
      (attemptEvents (encodeFrame exhausting.params.crcVariant exhausting.pendPayload).length
        exhausting.cfgTimeout.toNat)).flatten ++ [.arb] :=
  ⟨rfl, rfl, rfl, rfl, rfl, rfl, rfl, rfl, by decide, rfl⟩

/-- With a packet pending, and (a state of the invariant) with none. -/
theorem witness_StatusAndStateFieldPositions :
    (∃ w q a b : Word, w = memRead waiting 0x008 ∧ q = memRead waiting 0x024 ∧ a = memRead waiting 0x028 ∧
      b = memRead waiting 0x02C) ∧
    (∃ w q a b : Word, w = memRead closed 0x008 ∧ q = memRead closed 0x024 ∧ a = memRead closed 0x028 ∧
      b = memRead closed 0x02C) ∧ closed.Inv ∧ closed.pendingValid = false :=
  ⟨⟨_, _, _, _, rfl, rfl, rfl, rfl⟩, ⟨_, _, _, _, rfl, rfl, rfl, rfl⟩, inv_closed, rfl⟩

/-- RXQ empty, and a packet at the head; each with the first and the last offset of the window's region. -/
theorem witness_ReceiveWindowShowsHead :
    (closed.Inv ∧ closed.rxq = [] ∧ 0x2000 ≤ (0x2000 : Offset).toNat ∧ 0x2000 ≤ (0x3FFF : Offset).toNat) ∧
    (received.Inv ∧ received.rxq = laEntry :: [] ∧ 0 < 0x1000 ∧ 0xFFF < 0x1000) :=
  ⟨⟨inv_closed, by decide, by decide, by decide⟩, inv_received, by decide, by decide⟩

/-- The first and the last byte offset of each register's word. -/
theorem witness_RegisterWriteResults :
    closed.params.wf = true ∧
    ((0x00C : Offset).toNat / 4 = 3 ∧ (0x00F : Offset).toNat / 4 = 3) ∧
    ((0x010 : Offset).toNat / 4 = 4 ∧ (0x013 : Offset).toNat / 4 = 4) ∧
    ((0x014 : Offset).toNat / 4 = 5 ∧ (0x017 : Offset).toNat / 4 = 5) ∧
    ((0x018 : Offset).toNat / 4 = 6 ∧ (0x01B : Offset).toNat / 4 = 6) ∧
    ((0x01C : Offset).toNat / 4 = 7 ∧ (0x01F : Offset).toNat / 4 = 7) ∧
    ((0x020 : Offset).toNat / 4 = 8 ∧ (0x023 : Offset).toNat / 4 = 8) := by decide

/-- The first and the last byte offset of the first and of the last word of TX_BUF, and an address in another word. -/
theorem witness_TxBufWordReadsBack :
    closed.params.wf = true ∧ 4 * 0 < closed.params.maxpkt ∧ 4 * 255 < closed.params.maxpkt ∧
    ((0x1000 : Offset).toNat / 4 = 0x400 + 0 ∧ (0x1003 : Offset).toNat / 4 = 0x400 + 0) ∧
    ((0x13FC : Offset).toNat / 4 = 0x400 + 255 ∧ (0x13FF : Offset).toNat / 4 = 0x400 + 255) ∧
    (0x1004 : Offset).toNat / 4 ≠ 0x400 + 0 := by decide

/-- The two ends of each range. -/
theorem witness_ReservedAndReadOnlyOffsets :
    closed.params.wf = true ∧
    (0x04C ≤ (0x04C : Offset).toNat ∧ (0xFFF : Offset).toNat < 0x1000) ∧
    (0x1000 + closed.params.maxpkt ≤ (0x1400 : Offset).toNat ∧ (0x1FFF : Offset).toNat < 0x2000) ∧
    (0x2000 + closed.params.maxpkt ≤ (0x2400 : Offset).toNat ∧ 0x2000 + closed.params.maxpkt ≤ (0x3FFF : Offset).toNat) ∧
    (4 ≤ (0x004 : Offset).toNat ∧ (0x007 : Offset).toNat < 8) ∧ (0x003 : Offset).toNat < 4 ∧
    (0x008 ≤ (0x008 : Offset).toNat ∧ (0x00B : Offset).toNat < 0x00C) ∧
    (0x024 ≤ (0x024 : Offset).toNat ∧ (0x04B : Offset).toNat < 0x04C) ∧
    (0x2000 ≤ (0x2000 : Offset).toNat ∧ (0x23FF : Offset).toNat < 0x2000 + closed.params.maxpkt) := by decide

theorem witness_ReadsHaveNoSideEffects : ∃ s : State, s.schedule = .host (.read 0x3FFF) :: [] :=
  ⟨{ closed with schedule := [.host (.read 0x3FFF)] }, rfl⟩

/-- The first and the last byte offset of CMD's word. -/
theorem witness_StepRunsDecodedInstruction_command :
    (∃ s : State, s.schedule = .host (.write 0x004 0x00000009) :: []) ∧ (0x004 : Offset).toNat / 4 = 1 ∧
    (∃ s : State, s.schedule = .host (.write 0x007 0x00000009) :: []) ∧ (0x007 : Offset).toNat / 4 = 1 ∧
    decode (.cmd 0x00000009) = .ok .openLink :=
  ⟨⟨{ closed with schedule := [.host (.write 0x004 0x00000009)] }, rfl⟩, by decide,
    ⟨{ closed with schedule := [.host (.write 0x007 0x00000009)] }, rfl⟩, by decide, rfl⟩

/-- V-D1 at its last octet. -/
theorem witness_StepRunsDecodedInstruction_packet :
    ∃ s : State, s.schedule = .rxd :: [] ∧ s.linkOpen = true ∧ s.rxIn = .octet 0xCD :: [] ∧ s.stRxd = .fcs2 ∧
      crcFinish s.params.crcVariant s.rxCrc = (0xCD : Octet) ++ s.fcsLo ∧
      decode (.pkt s.rxAcc) = .ok (.rxLa (.short 0x03) 0x01 0x08 []) :=
  ⟨{ opened with
      schedule := [.rxd], rxIn := [.octet 0xCD], stRxd := .fcs2, rxAcc := [0x03, 0x05, 0x01, 0x08], rxCrc := 0xCD52,
      fcsLo := 0x52 }, rfl, rfl, rfl, rfl, by decide, rfl⟩

/-- Legal parameters at both ends of R9's ranges; both ends of the read ranges. -/
theorem witness_ResetRegisterValues :
    ({ testParams with maxpkt := 264, txqDepth := 1, rxqDepth := 1 } : Params).wf = true ∧
    ({ testParams with maxpkt := 4096, txqDepth := 255, rxqDepth := 255 } : Params).wf = true ∧
    (0x020 ≤ (0x020 : Offset).toNat ∧ (0xFFF : Offset).toNat < 0x1000) ∧
    (0x020 ≤ (0x3FFF : Offset).toNat ∧ 0x1000 + 4096 ≤ (0x3FFF : Offset).toNat) := by decide

theorem witness_RstEventResetsEveryRegister : ∃ s : State, s.schedule = .rst :: [] :=
  ⟨{ waiting with schedule := [.rst] }, rfl⟩

theorem witness_StepKeepsInvariant_and_StepAlwaysCompletes :
    acked.Inv ∧ ∃ t, step acked = .next t ∧ t.irqStatus = 0x08 :=
  ⟨inv_acked, _, rfl, by decide⟩

/-- The packet is acknowledged and completes; ACK_MATCH is set before. -/
theorem witness_AckMatchNeverWithdrawn :
    acked.Inv ∧ acked.schedule = .arb :: [] ∧ (∃ t, step acked = .next t) ∧ Event.arb ≠ .rst ∧ acked.ackMatch = true :=
  ⟨inv_acked, rfl, ⟨_, rfl⟩, by decide, rfl⟩

/-- A host write to the last offset of IRQ_STATUS that clears seven set bits and writes 0 to bit 0. -/
theorem witness_InterruptBitsAreSticky :
    ∃ s : State, s.schedule = .host (.write 0x00F 0xFFFFFFFE) :: [] ∧ (∃ t, step s = .next t) ∧
      Event.host (.write 0x00F 0xFFFFFFFE) ≠ .rst ∧ (0x00F : Offset).toNat / 4 = 3 ∧
      (∀ addr v, Event.host (.write 0x00F 0xFFFFFFFE) = .host (.write addr v) → addr.toNat / 4 = 3 →
        v.getLsbD 0 = false) ∧ s.irqStatus.getLsbD 0 = true :=
  ⟨{ waiting with irqStatus := 0xFF, schedule := [.host (.write 0x00F 0xFFFFFFFE)] }, rfl, ⟨_, rfl⟩, by decide, by decide,
    by intro addr v h _; injection h with h; injection h with h₁ h₂; subst h₂; decide, by decide⟩

/-- A CMD write of CLOSE with a packet in RXQ. -/
theorem witness_ReceiveQueueOnlyReleasedByHost :
    ∃ s : State, s.rxq ≠ [] ∧ s.schedule = .host (.write 0x007 0x00000008) :: [] ∧ (∃ t, step s = .next t) ∧
      (∀ addr w, Event.host (.write 0x007 0x00000008) = .host (.write addr w) → addr.toNat / 4 = 1 →
        w ≠ 0x00000009 ∧ w ≠ 0x0000000A) :=
  ⟨{ received with schedule := [.host (.write 0x007 0x00000008)] }, by decide, rfl, ⟨_, rfl⟩,
    by intro addr w h _; injection h with h; injection h with h₁ h₂; subst h₂; decide⟩

/-- A write of the number of SEND_LR to TX_LEN, and a CMD write of SEND_LD. -/
theorem witness_SequenceCountersHaveFewWriters :
    (∃ s : State, s.schedule = .host (.write 0x020 0x00000001) :: [] ∧ (∃ t, step s = .next t) ∧
      (∀ addr w, Event.host (.write 0x020 0x00000001) = .host (.write addr w) → addr.toNat / 4 = 1 →
        w ≠ 0x00000001 ∧ w ≠ 0x00000004 ∧ w ≠ 0x00000009)) ∧
    (∃ s : State, s.schedule = .host (.write 0x007 0x00000002) :: [] ∧ (∃ t, step s = .next t) ∧
      Event.host (.write 0x007 0x00000002) ≠ .rst ∧ Event.host (.write 0x007 0x00000002) ≠ .rxd ∧
      (∀ addr w, Event.host (.write 0x007 0x00000002) = .host (.write addr w) → addr.toNat / 4 = 1 →
        w ≠ 0x00000001 ∧ w ≠ 0x00000004 ∧ w ≠ 0x00000009)) :=
  ⟨⟨{ staged with schedule := [.host (.write 0x020 0x00000001)] }, rfl, ⟨_, rfl⟩,
      by intro addr w h h'; injection h with h; injection h with h₁ h₂; subst h₁; exact absurd h' (by decide)⟩,
    ⟨{ staged with schedule := [.host (.write 0x007 0x00000002)] }, rfl, ⟨_, rfl⟩, by decide, by decide,
      by intro addr w h _; injection h with h; injection h with h₁ h₂; subst h₂; decide⟩⟩

/-- TXF's turn with one octet of a frame left to send. -/
theorem witness_TransmitStreamOnlyGrows :
    ∃ s t : State, s.schedule = .txf :: [] ∧ step s = .next t ∧ t.txOut = s.txOut ++ [0xCD] :=
  ⟨{ waiting with stArb := .sending, stTxf := .busy, txWire := [0xCD], schedule := [.txf] }, _, rfl, rfl, by decide⟩

/-- A closed link, and a SEND_LT that will be refused. -/
def refusing : State := { closed with schedule := [.host (.write 0x004 0x00000004)] }

theorem witness_OnlyOpenLeavesClosedLink :
    refusing.Inv ∧ refusing.linkOpen = false ∧ refusing.schedule = .host (.write 0x004 0x00000004) :: [] ∧
    (∃ t, step refusing = .next t) ∧
    (∀ addr w, Event.host (.write 0x004 0x00000004) = .host (.write addr w) → addr.toNat / 4 = 1 → w ≠ 0x00000009) :=
  ⟨inv_closed.of_environment [] [] [.host (.write 0x004 0x00000004)] 0 true true, by decide, rfl, ⟨_, rfl⟩,
    by intro addr w h _; injection h with h; injection h with h₁ h₂; subst h₂; decide⟩

end Sys2Proof.Tests
end

/-! The family of spec/00_scope.md: the invariant holds at reset and is kept by every step; the parameters never change and
the transmit stream grows only by TXF's turn.

Each part of `State.Inv` reads few fields. A `congr` lemma per part says which, so that the proof for a transition builds only
the parts it touches and hands on the others. -/

namespace Sys2Proof.Machine

section InvariantParts

variable {s t : State}

/-! ## What each part of the invariant reads -/

theorem ConfigInv.congr (h : ConfigInv s) (hp : t.params = s.params := by rfl) (hr : t.cfgRetry = s.cfgRetry := by rfl)
    (hm : t.cfgMaxinfo = s.cfgMaxinfo := by rfl) : ConfigInv t where
  params_wf := by rw [hp]; exact h.params_wf
  retry_pos := by rw [hr]; exact h.retry_pos
  maxinfo_pos := by rw [hm]; exact h.maxinfo_pos
  maxinfo_le := by rw [hm, hp]; exact h.maxinfo_le

theorem MemoryInv.congr (h : MemoryInv s) (hp : t.params = s.params := by rfl) (hb : t.txBuf = s.txBuf := by rfl) :
    MemoryInv t where
  canonical := by rw [hb]; exact h.canonical
  bounded := by rw [hb, hp]; exact h.bounded

theorem QueueInv.congr (h : QueueInv s) (hp : t.params = s.params := by rfl) (ht : t.txq = s.txq := by rfl)
    (hr : t.rxq = s.rxq := by rfl) : QueueInv t where
  txq_le := by rw [ht, hp]; exact h.txq_le
  rxq_le := by rw [hr, hp]; exact h.rxq_le
  txq_payload := by rw [ht, hp]; exact h.txq_payload
  txq_seq := by rw [ht]; exact h.txq_seq
  rxq_payload := by rw [hr, hp]; exact h.rxq_payload

theorem RxdInv.congr (h : RxdInv s) (hp : t.params = s.params := by rfl) (hs : t.stRxd = s.stRxd := by rfl)
    (ha : t.rxAcc = s.rxAcc := by rfl) (hc : t.rxCrc = s.rxCrc := by rfl) (hf : t.fcsLo = s.fcsLo := by rfl) :
    RxdInv t where
  acc_le := by rw [ha, hp]; exact h.acc_le
  hunting := by rw [Hunting, hs, ha, hc]; exact h.hunting
  payload := by rw [hs, ha, hc, hp]; exact h.payload
  trailer := by rw [hs, ha, hc, hp]; exact h.trailer
  fcs_lo := by rw [hs, hf]; exact h.fcs_lo

theorem TxfInv.congr (h : TxfInv s) (hp : t.params = s.params := by rfl) (hs : t.stTxf = s.stTxf := by rfl)
    (hw : t.txWire = s.txWire := by rfl) (hi : t.txIdx = s.txIdx := by rfl)
    (hl : t.pendPayload = s.pendPayload := by rfl) (ha : t.stArb = s.stArb := by rfl) : TxfInv t where
  idle := by rw [hs, hw, hi]; exact h.idle
  busy := by rw [hs, hw, hi, hp, hl, ha]; exact h.busy

theorem ArbInv.congr (h : ArbInv s) (hp : t.params = s.params := by rfl) (ha : t.stArb = s.stArb := by rfl)
    (hv : t.pendingValid = s.pendingValid := by rfl) (hk : t.pendingKind = s.pendingKind := by rfl)
    (hq : t.pendingSeq = s.pendingSeq := by rfl) (hn : t.needsAck = s.needsAck := by rfl)
    (hl : t.pendPayload = s.pendPayload := by rfl) (hc : t.attempts = s.attempts := by rfl)
    (hm : t.ackMatch = s.ackMatch := by rfl) (ht : t.timer = s.timer := by rfl) : ArbInv t where
  valid_iff := by rw [hv, ha]; exact h.valid_iff
  nothing := by rw [NothingPending, hv, hk, hq, hc, hl, hm]; exact h.nothing
  kind := by rw [hv, hk, hn, hq]; exact h.kind
  payload_le := by rw [hl, hp]; exact h.payload_le
  timer := by rw [ha, ht]; exact h.timer
  hold_attempts := by rw [ha, hc]; exact h.hold_attempts
  begun := by rw [ha, hc]; exact h.begun
  wait_needs := by rw [ha, hn]; exact h.wait_needs
  once := by rw [hn, ha, hc]; exact h.once
  matched := by rw [hm, hn, hc]; exact h.matched

theorem LinkInv.congr (h : LinkInv s) (ho : t.linkOpen = s.linkOpen := by rfl) (ha : t.stArb = s.stArb := by rfl)
    (hq : t.txq = s.txq := by rfl) (hx : t.stTxf = s.stTxf := by rfl) (hr : t.stRxd = s.stRxd := by rfl)
    (hc : t.closeCause = s.closeCause := by rfl) (he : t.eosSeen = s.eosSeen := by rfl)
    (hl : t.laSeen = s.laSeen := by rfl) (hs : t.lastAckSeq = s.lastAckSeq := by rfl)
    (hd : t.lastCredit = s.lastCredit := by rfl) : LinkInv t where
  closed := by rw [ho, ha, hq, hx, hr]; exact h.closed
  opened := by rw [ho, hc]; exact h.opened
  eos_iff := by rw [he, hc]; exact h.eos_iff
  no_la := by rw [hl, hs, hd]; exact h.no_la

/-- While the link is open the agents and TXQ are free. -/
theorem LinkInv.congr_of_open (h : LinkInv s) (hopen : s.linkOpen = true) (ho : t.linkOpen = s.linkOpen := by rfl)
    (hc : t.closeCause = s.closeCause := by rfl) (he : t.eosSeen = s.eosSeen := by rfl)
    (hl : t.laSeen = s.laSeen := by rfl) (hs : t.lastAckSeq = s.lastAckSeq := by rfl)
    (hd : t.lastCredit = s.lastCredit := by rfl) : LinkInv t where
  closed hclosed := by rw [ho, hopen] at hclosed; cases hclosed
  opened := by rw [ho, hc]; exact h.opened
  eos_iff := by rw [he, hc]; exact h.eos_iff
  no_la := by rw [hl, hs, hd]; exact h.no_la

/-! ## Fields the invariant does not read -/

/-- The state with every field that the invariant does not read set to a fixed value. -/
def State.core (s : State) : State :=
  { s with
    cmdErr := .ok, irqStatus := 0, irqEnable := 0, cfgTimeout := 0, txLen := 0, txSeq := 0, rxLast := 0,
    cntFrameErr := 0, cntSeqDrop := 0, cntRxOverflow := 0, sendAllowed := true, txReady := true, rdata := 0,
    rxIn := [], txOut := [], schedule := [], draws := 0 }

theorem State.core_inv_iff (s : State) : s.core.Inv ↔ s.Inv :=
  ⟨fun h => ⟨h.config.congr, h.memory.congr, h.queues.congr, h.rxd.congr, h.txf.congr, h.arb.congr, h.link.congr⟩,
    fun h => ⟨h.config.congr, h.memory.congr, h.queues.congr, h.rxd.congr, h.txf.congr, h.arb.congr, h.link.congr⟩⟩

/-- A change of fields that the invariant does not read keeps it. -/
theorem State.Inv.of_core_eq (h : s.Inv) (heq : t.core = s.core := by rfl) : t.Inv := by
  rw [← State.core_inv_iff, heq, State.core_inv_iff]
  exact h

/-! ## Idle agents -/

/-- RXD hunting with empty accumulators, as every return to HUNT0 leaves it. -/
theorem rxdInv_of_hunting (hs : Hunting t) (ha : t.rxAcc = [] := by rfl) (hc : t.rxCrc = 0 := by rfl)
    (hf : t.fcsLo = 0 := by rfl) : RxdInv t where
  acc_le := by simp [ha]
  hunting _ := ⟨ha, hc⟩
  payload h := by rcases hs with hs | hs | hs <;> simp [hs] at h
  trailer h := by rcases hs with hs | hs | hs <;> simp [hs] at h
  fcs_lo _ := hf

theorem txfInv_of_idle (hs : t.stTxf = .idle := by rfl) (hw : t.txWire = [] := by rfl) (hi : t.txIdx = 0 := by rfl) :
    TxfInv t where
  idle _ := ⟨hw, hi⟩
  busy h := by rw [hs] at h; cases h

/-- An idle TXF stays in order whatever ARB does. -/
theorem TxfInv.congr_of_idle (h : TxfInv s) (hidle : s.stTxf = .idle) (hs : t.stTxf = s.stTxf := by rfl)
    (hw : t.txWire = s.txWire := by rfl) (hi : t.txIdx = s.txIdx := by rfl) : TxfInv t :=
  txfInv_of_idle (hs.trans hidle) (hw.trans (h.idle hidle).1) (hi.trans (h.idle hidle).2)

/-- TXF is BUSY for ARB's SENDING only (10_state.md R46, R47). -/
theorem TxfInv.idle_of_not_sending (h : TxfInv s) (ha : s.stArb ≠ .sending) : s.stTxf = .idle := by
  cases hs : s.stTxf
  case idle => rfl
  case busy => exact absurd (h.busy hs).2.2 ha

/-- ARB idle with nothing pending; `needs_ack` is free. -/
theorem arbInv_of_idle (ha : t.stArb = .idle := by rfl) (hv : t.pendingValid = false := by rfl)
    (hn : NothingPending t := by exact ⟨rfl, rfl, rfl, rfl, rfl⟩) (ht : t.timer = 0 := by rfl) : ArbInv t := by
  have ⟨_, _, hattempts, hpayload, hmatch⟩ := hn
  exact {
    valid_iff := by simp [ha, hv]
    nothing := fun _ => hn
    kind := by simp [hv]
    payload_le := by simp [hpayload]
    timer := fun _ => ht
    hold_attempts := by simp [ha]
    begun := by simp [ha]
    wait_needs := by simp [ha]
    once := by simp [ha, hattempts]
    matched := by simp [hmatch] }

/-! ## The ranges of the parameters -/

/-- The range of MAXPKT (00_scope.md R9). -/
theorem maxpkt_range {p : Params} (h : p.wf = true) : 264 ≤ p.maxpkt ∧ p.maxpkt ≤ 4096 := by
  simp only [Params.wf, Bool.and_eq_true, decide_eq_true_eq] at h
  omega

/-! ## Reset -/

theorem resetWith_inv {p : Params} (hp : p.wf = true) : (State.resetWith p).Inv where
  config := ⟨hp, show 1 ≤ (5 : Octet).toNat by decide, show 1 ≤ (256 : Word16).toNat by decide,
    show 256 ≤ p.maxpkt - 5 by have := maxpkt_range hp; omega⟩
  memory := ⟨Memory.wf_resetWith p, by simp [State.resetWith]⟩
  queues := ⟨Nat.zero_le _, Nat.zero_le _, by simp [State.resetWith], by simp [State.resetWith],
    by simp [State.resetWith]⟩
  rxd := rxdInv_of_hunting (.inl rfl)
  txf := txfInv_of_idle
  arb := arbInv_of_idle
  link := ⟨fun _ => ⟨rfl, rfl, rfl, rfl⟩, fun _ => rfl, by simp [State.resetWith], fun _ => ⟨rfl, rfl⟩⟩

/-- `rst` leaves the reset state of the same parameters, but for fields that the invariant does not read. -/
theorem applyReset_keeps_inv (h : s.Inv) : (applyReset s).Inv := (resetWith_inv h.config.params_wf).of_core_eq

/-! ## Raising an error -/

/-- RXD may drop what it has received at any time. -/
theorem rxdIdle_keeps_inv (h : s.Inv) : (rxdIdle s).Inv where
  config := h.config.congr
  memory := h.memory.congr
  queues := h.queues.congr
  rxd := rxdInv_of_hunting (.inl rfl)
  txf := h.txf.congr
  arb := h.arb.congr
  link := ⟨fun hc => let ⟨ha, hq, hx, _⟩ := h.link.closed hc; ⟨ha, hq, hx, rfl⟩, h.link.opened, h.link.eos_iff,
    h.link.no_la⟩

theorem frameError_keeps_inv (c : FrameErrorCause) (h : s.Inv) : (frameError c s).Inv :=
  (rxdIdle_keeps_inv h).of_core_eq

/-- The close sequence (R285) asks that EOS_SEEN be set exactly for the cause EOS, which RXD sets just before it. -/
theorem closeOpenLink_inv (c : CloseCause) (h : s.Inv) (b : Bool) (hb : b = true ↔ c = .eos) :
    (closeOpenLink c { s with eosSeen := b }).Inv := by
  rw [closeOpenLink_eq]
  exact {
    config := h.config.congr
    memory := h.memory.congr
    queues := ⟨Nat.zero_le _, h.queues.rxq_le, by simp, by simp, h.queues.rxq_payload⟩
    rxd := rxdInv_of_hunting (.inl rfl)
    txf := txfInv_of_idle
    arb := arbInv_of_idle
    link := ⟨fun _ => ⟨rfl, rfl, rfl, rfl⟩, by simp, by simpa using hb, h.link.no_la⟩ }

/-- An open link has not seen EOS, so a close for another cause keeps the invariant as it stands. -/
theorem closeLinkWith_keeps_inv {c : CloseCause} (hc : c ≠ .eos) (h : s.Inv) : (closeLinkWith c s).Inv := by
  cases hopen : s.linkOpen
  case false => rwa [closeLinkWith_closed hopen]
  case true =>
    rw [closeLinkWith_open hopen]
    have heos : s.eosSeen = true ↔ c = .eos := by simp [h.link.eos_iff, h.link.opened hopen, hc]
    exact closeOpenLink_inv c h s.eosSeen heos

/-- EndOfStream on an open link (R192). -/
theorem rxdEos_keeps_inv (hopen : s.linkOpen = true) (h : s.Inv) : (rxdEos s).Inv := by
  have hclose : rxdEos s = closeOpenLink .eos { rxdIdle s with eosSeen := true } :=
    closeLinkWith_open (s := { rxdIdle s with eosSeen := true }) hopen _
  rw [hclose]
  exact closeOpenLink_inv .eos (rxdIdle_keeps_inv h) true (by simp)

/-! ## Host commands -/

/-- A command keeps the invariant if its effect does whenever its checks pass. -/
theorem runCommand_keeps_inv {check : CmdErr} (h : s.Inv) (ht : check = .ok → t.Inv) : (runCommand check t s).Inv := by
  rcases runCommand_cases check t s with ⟨hok, heq⟩ | ⟨-, heq⟩ <;> rw [heq]
  · exact (ht hok).of_core_eq
  · exact h.of_core_eq

/-- A packet that fits may be queued on an open link whose TXQ has room. -/
theorem enqueueTx_keeps_inv {e : TxEntry} (h : s.Inv) (hopen : s.linkOpen = true)
    (hroom : s.txq.length ≠ s.params.txqDepth) (hfits : e.payload.length ≤ s.params.maxpkt)
    (hseq : e.kind ≠ .lt → e.seq = 0) : (enqueueTx e s).Inv where
  config := h.config.congr
  memory := h.memory.congr
  queues :=
    { txq_le := by simpa using Nat.lt_of_le_of_ne h.queues.txq_le hroom
      rxq_le := h.queues.rxq_le
      txq_payload := by simpa [or_imp, forall_and] using ⟨h.queues.txq_payload, hfits⟩
      txq_seq := by simpa [or_imp, forall_and] using ⟨h.queues.txq_seq, hseq⟩
      rxq_payload := h.queues.rxq_payload }
  rxd := h.rxd.congr
  txf := h.txf.congr
  arb := h.arb.congr
  link := h.link.congr_of_open hopen

theorem execSendLr_keeps_inv (h : s.Inv) (he : execSendLr s = .next t) : t.Inv := by
  cases he
  refine runCommand_keeps_inv h fun hok => ?_
  obtain ⟨hopen, ⟨-, hlen⟩, hroom⟩ := (checkSendWhole_ok s).1 hok
  have hreset : (seqResetTx s).Inv := h.of_core_eq
  exact enqueueTx_keeps_inv hreset hopen hroom (by simpa [seqResetTx] using hlen) fun _ => rfl

theorem execSendLd_keeps_inv (h : s.Inv) (he : execSendLd s = .next t) : t.Inv := by
  cases he
  refine runCommand_keeps_inv h fun hok => ?_
  obtain ⟨hopen, ⟨-, hlen⟩, hroom⟩ := (checkSendWhole_ok s).1 hok
  exact enqueueTx_keeps_inv h hopen hroom (by simpa using hlen) fun _ => rfl

/-- A built LT fits, since CFG_MAXINFO leaves room for the longest LT header (10_state.md R26). -/
theorem execSendLt_keeps_inv (h : s.Inv) (he : execSendLt s = .next t) : t.Inv := by
  cases he
  refine runCommand_keeps_inv h fun hok => ?_
  obtain ⟨hopen, ⟨-, hlen⟩, hroom⟩ := (checkSendLt_ok s).1 hok
  have hassigned : (seqAssign s).Inv := h.of_core_eq
  refine enqueueTx_keeps_inv hassigned hopen hroom ?_ fun hk => absurd rfl hk
  calc (buildLt s.params.lenMode (seqAssign s).txSeq (txData s)).length
      ≤ (txData s).length + 5 := buildLt_length_le _ _ _
    _ ≤ s.params.maxpkt := by
        have := h.config.maxinfo_le
        have := maxpkt_range h.config.params_wf
        rw [txData_length]
        omega

/-- A built LA fits, since its data leave room for the longest LA header (R316). -/
theorem execSendLa_keeps_inv {a b : Octet} {d : Bool} (h : s.Inv) (he : execSendLa a b d s = .next t) : t.Inv := by
  cases he
  refine runCommand_keeps_inv h fun hok => ?_
  obtain ⟨hopen, hlen, hroom⟩ := (checkSendLa_ok d s).1 hok
  refine enqueueTx_keeps_inv h hopen hroom ?_ fun _ => rfl
  calc (buildLa s.params.lenMode a b (laData d s)).length
      ≤ (laData d s).length + 6 := buildLa_length_le _ _ _ _
    _ ≤ s.params.maxpkt := by
        have := maxpkt_range h.config.params_wf
        cases d
        case false =>
          show 0 + 6 ≤ s.params.maxpkt
          omega
        case true =>
          have := hlen rfl
          show (txData s).length + 6 ≤ s.params.maxpkt
          rw [txData_length]
          omega

theorem openSession_keeps_inv (h : s.Inv) : (openSession s).Inv := by
  rw [openSession_eq]
  exact {
    config := h.config.congr
    memory := h.memory.congr
    queues := ⟨Nat.zero_le _, Nat.zero_le _, by simp, by simp, by simp⟩
    rxd := rxdInv_of_hunting (.inl rfl)
    txf := txfInv_of_idle
    arb := arbInv_of_idle
    link := ⟨by simp, fun _ => rfl, by simp, fun _ => ⟨rfl, rfl⟩⟩ }

/-- RXQ may lose its head. -/
theorem rxqTail_keeps_inv (h : s.Inv) : ({ s with rxq := s.rxq.tail } : State).Inv where
  config := h.config.congr
  memory := h.memory.congr
  queues := ⟨h.queues.txq_le, by simpa using h.queues.rxq_le.trans' (Nat.sub_le _ _), h.queues.txq_payload,
    h.queues.txq_seq, fun e he => h.queues.rxq_payload e (List.mem_of_mem_tail he)⟩
  rxd := h.rxd.congr
  txf := h.txf.congr
  arb := h.arb.congr
  link := h.link.congr

/-! ## Received packets -/

/-- A good packet that fits keeps the invariant, whether RXQ takes it or is full. -/
theorem withRxRoom_keeps_inv (h : s.Inv) (ht : s.rxq.length ≠ s.params.rxqDepth → t.Inv) : (withRxRoom s t).Inv := by
  by_cases hroom : s.rxq.length = s.params.rxqDepth
  · rw [withRxRoom_full hroom]
    exact h.of_core_eq
  · rw [withRxRoom_room hroom]
    exact ht hroom

theorem deliver_keeps_inv (k : RxKind) (q c : Octet) {p : List Octet} (h : s.Inv)
    (hfits : p.length ≤ s.params.maxpkt) (hroom : s.rxq.length ≠ s.params.rxqDepth) : (deliver k q c p s).Inv where
  config := h.config.congr
  memory := h.memory.congr
  queues :=
    { txq_le := h.queues.txq_le
      rxq_le := by simpa using Nat.lt_of_le_of_ne h.queues.rxq_le hroom
      txq_payload := h.queues.txq_payload
      txq_seq := h.queues.txq_seq
      rxq_payload := by simpa [or_imp, forall_and] using ⟨h.queues.rxq_payload, hfits⟩ }
  rxd := h.rxd.congr
  txf := h.txf.congr
  arb := h.arb.congr
  link := h.link.congr

/-- An LA matches only a pending packet that wants an acknowledgement and has been attempted (R251). -/
theorem pending_of_laMatches {q : Octet} (h : laMatches q s = true) :
    s.pendingValid = true ∧ s.needsAck = true ∧ 1 ≤ s.attempts.toNat := by
  simp only [laMatches, Bool.and_eq_true, decide_eq_true_eq] at h
  obtain ⟨⟨⟨hv, hn⟩, ha⟩, -⟩ := h
  exact ⟨hv, hn, ha⟩

theorem laReceive_keeps_inv (q c : Octet) (h : s.Inv) : (laReceive q c s).Inv where
  config := h.config.congr
  memory := h.memory.congr
  queues := h.queues.congr
  rxd := h.rxd.congr
  txf := h.txf.congr
  arb :=
    { valid_iff := h.arb.valid_iff
      nothing := fun hv => by
        obtain ⟨hkind, hseq, hattempts, hpayload, hmatch⟩ := h.arb.nothing hv
        refine ⟨hkind, hseq, hattempts, hpayload, ?_⟩
        have hnone : laMatches q s = false := by
          by_contra hne
          have := (pending_of_laMatches (Bool.eq_true_of_not_eq_false hne)).1
          exact absurd (this.symm.trans hv) (by decide)
        simp [laReceive, hmatch, hnone]
      kind := h.arb.kind
      payload_le := h.arb.payload_le
      timer := h.arb.timer
      hold_attempts := h.arb.hold_attempts
      begun := h.arb.begun
      wait_needs := h.arb.wait_needs
      once := h.arb.once
      matched := fun hm => by
        rcases Bool.or_eq_true_iff.1 hm with hm | hm
        · exact h.arb.matched hm
        · exact (pending_of_laMatches hm).2 }
  link := ⟨h.link.closed, h.link.opened, h.link.eos_iff, fun hl => by cases hl⟩

theorem execRxLt_keeps_inv {len : LenField} {q : Octet} {data : List Octet} (h : s.Inv)
    (hfits : (packetOctets len 0x04 (q :: data)).length ≤ s.params.maxpkt) (he : execRxLt len q data s = .next t) :
    t.Inv := by
  cases he
  refine withRxRoom_keeps_inv h fun hroom => ?_
  rw [seqFilter]
  split
  · have hlast : ({ s with rxLast := q } : State).Inv := h.of_core_eq
    exact deliver_keeps_inv .lt q 0 hlast hfits hroom
  · exact h.of_core_eq

/-! ## Instructions -/

/-- A received packet that fits in MAXPKT; a command is no packet and always fits. -/
def FitsIn (maxpkt : Nat) (i : Instr) : Prop := ∀ p, encode i = .pkt p → p.length ≤ maxpkt

theorem exec_keeps_inv {i : Instr} (h : s.Inv) (hfits : FitsIn s.params.maxpkt i) (he : exec i s = .next t) :
    t.Inv := by
  cases i with
  | nop => cases he; exact h.of_core_eq
  | sendLr => exact execSendLr_keeps_inv h he
  | sendLd => exact execSendLd_keeps_inv h he
  | sendLt => exact execSendLt_keeps_inv h he
  | sendLa a b d => exact execSendLa_keeps_inv h he
  | closeLink => cases he; exact (closeLinkWith_keeps_inv (c := .host) (by decide) h).of_core_eq
  | openLink => cases he; exact runCommand_keeps_inv h fun _ => openSession_keeps_inv h
  | rxRelease => cases he; exact runCommand_keeps_inv h fun _ => rxqTail_keeps_inv h
  | clrCounters => cases he; exact h.of_core_eq
  | rxLr len body =>
    cases he
    have hreset : (seqResetRx s).Inv := h.of_core_eq
    exact withRxRoom_keeps_inv h fun hroom => deliver_keeps_inv .lr 0 0 hreset (hfits _ rfl) hroom
  | rxLd len body =>
    cases he
    exact withRxRoom_keeps_inv h fun hroom => deliver_keeps_inv .ld 0 0 h (hfits _ rfl) hroom
  | rxLt len q data => exact execRxLt_keeps_inv h (hfits _ rfl) he
  | rxLa len q c data =>
    cases he
    have hrecorded := laReceive_keeps_inv q c h
    exact withRxRoom_keeps_inv hrecorded fun hroom => deliver_keeps_inv .la q c hrecorded (hfits _ rfl) hroom

/-! ## The host bus -/

theorem eq_of_decodePlain {w : Word} {i j : Instr} (h : decodePlain w i = .ok j) : j = i := by
  unfold decodePlain at h
  split at h <;> cases h
  rfl

/-- A word decodes to a command, which is no packet (30_encoding.md R122). -/
theorem encode_of_decodeCmd {w : Word} {i : Instr} (hd : decodeCmd w = .ok i) : ∃ v, encode i = .cmd v := by
  unfold decodeCmd at hd
  split at hd
  case h_5 =>
    unfold decodeSendLa at hd
    split at hd <;> cases hd
    exact ⟨_, rfl⟩
  case h_10 => cases hd
  all_goals
    rw [eq_of_decodePlain hd]
    exact ⟨_, rfl⟩

theorem fitsIn_of_decodeCmd {w : Word} {i : Instr} (n : Nat) (hd : decodeCmd w = .ok i) : FitsIn n i := by
  obtain ⟨v, hv⟩ := encode_of_decodeCmd hd
  intro p hp
  cases hv.symm.trans hp

theorem cmdWrite_keeps_inv {w : Word} (h : s.Inv) (he : cmdWrite w s = .next t) : t.Inv := by
  unfold cmdWrite at he
  split at he
  case h_1 i hd => exact exec_keeps_inv h (fitsIn_of_decodeCmd _ hd) he
  case h_2 r hd =>
    cases he
    cases r <;> exact h.of_core_eq

theorem legalRetry_pos (v : Octet) : 1 ≤ (legalRetry v).toNat := by
  unfold legalRetry
  split
  · decide
  · rename_i hv
    exact Nat.pos_of_ne_zero fun h0 => hv (BitVec.eq_of_toNat_eq h0)

/-- CFG_MAXINFO reads back in 1..MAXPKT - 5 (10_state.md R26). -/
theorem legalMaxinfo_range {p : Params} (hp : p.wf = true) (v : Word16) :
    1 ≤ (legalMaxinfo p v).toNat ∧ (legalMaxinfo p v).toNat ≤ p.maxpkt - 5 := by
  have := maxpkt_range hp
  simp only [legalMaxinfo, BitVec.toNat_ofNat]
  omega

theorem writeTxBufWord_keeps_inv (k : Nat) (v : Word) (h : s.Inv) : (writeTxBufWord k v s).Inv := by
  obtain ⟨m, heq, hcanonical, hbounded⟩ := writeTxBufWord_spec k v s
  rw [heq]
  exact {
    config := h.config.congr
    memory := ⟨hcanonical h.memory.canonical, hbounded h.memory.bounded⟩
    queues := h.queues.congr
    rxd := h.rxd.congr
    txf := h.txf.congr
    arb := h.arb.congr
    link := h.link.congr }

/-- The two configuration registers with a range store a legal value whatever is written. -/
theorem configWrite_keeps_inv (h : s.Inv) {retry : Octet} {maxinfo : Word16} (hretry : 1 ≤ retry.toNat)
    (hmaxinfo : 1 ≤ maxinfo.toNat ∧ maxinfo.toNat ≤ s.params.maxpkt - 5) :
    ({ s with cfgRetry := retry, cfgMaxinfo := maxinfo } : State).Inv where
  config := ⟨h.config.params_wf, hretry, hmaxinfo.1, hmaxinfo.2⟩
  memory := h.memory.congr
  queues := h.queues.congr
  rxd := h.rxd.congr
  txf := h.txf.congr
  arb := h.arb.congr
  link := h.link.congr

theorem writeRegister_keeps_inv (off : Nat) (v : Word) (h : s.Inv) : (writeRegister off v s).Inv := by
  unfold writeRegister
  split
  case h_4 => exact configWrite_keeps_inv h (legalRetry_pos _) ⟨h.config.maxinfo_pos, h.config.maxinfo_le⟩
  case h_5 => exact configWrite_keeps_inv h h.config.retry_pos (legalMaxinfo_range h.config.params_wf _)
  all_goals exact h.of_core_eq

theorem hostAccess_keeps_inv {a : Access} (h : s.Inv) (he : hostAccess a s = .next t) : t.Inv := by
  cases a with
  | read addr => cases he; exact h.of_core_eq
  | write addr v =>
    simp only [hostAccess, memWrite] at he
    split at he
    · exact cmdWrite_keeps_inv h he
    · cases he
      unfold writeWord
      split
      · exact writeTxBufWord_keeps_inv _ v h
      · exact writeRegister_keeps_inv _ v h

/-! ## RXD -/

/-- The type code read is the one the instruction is encoded with (30_encoding.md R109). -/
theorem encode_of_decodeBody {len : LenField} {ty : Octet} {body : List Octet} {i : Instr}
    (hd : decodeBody len ty body = .ok i) : encode i = .pkt (packetOctets len ty body) := by
  have code : ∀ {c : Octet}, ty.toNat = c.toNat → ty = c := BitVec.eq_of_toNat_eq
  unfold decodeBody at hd
  split at hd
  case h_1 hty => cases hd; rw [code (c := 0x01) hty]; rfl
  case h_2 hty => cases hd; rw [code (c := 0x02) hty]; rfl
  case h_3 hty =>
    split at hd <;> cases hd
    rw [code (c := 0x04) hty]; rfl
  case h_4 hty =>
    split at hd <;> cases hd
    rw [code (c := 0x05) hty]; rfl
  case h_5 => cases hd

theorem encode_of_decodeAfterLen {len : LenField} {rest : List Octet} {i : Instr}
    (hd : decodeAfterLen len rest = .ok i) : encode i = .pkt (len.octets ++ rest) := by
  cases rest with
  | nil => cases hd
  | cons ty body => exact encode_of_decodeBody hd

/-- A payload that decodes is the encoded form of its instruction. -/
theorem encode_of_decodePacket {p : List Octet} {i : Instr} (hd : decodePacket p = .ok i) : encode i = .pkt p := by
  unfold decodePacket at hd
  split at hd
  case h_1 => cases hd
  case h_2 l rest =>
    split at hd
    case isTrue hl =>
      split at hd
      case h_1 h lo rest' => simpa [LenField.octets, hl] using encode_of_decodeAfterLen hd
      case h_2 => cases hd
    case isFalse => exact encode_of_decodeAfterLen hd

/-- The action on a good payload, whether it is an instruction or OTHER. -/
theorem frameGood_keeps_inv {p : List Octet} (h : s.Inv) (hfits : p.length ≤ s.params.maxpkt)
    (he : frameGood p s = .next t) : t.Inv := by
  unfold frameGood at he
  split at he
  case h_1 i hd =>
    refine exec_keeps_inv h (fun q hq => ?_) he
    cases (encode_of_decodePacket hd).symm.trans hq
    exact hfits
  case h_2 =>
    cases he
    exact withRxRoom_keeps_inv h fun hroom => deliver_keeps_inv .other 0 0 h hfits hroom

/-- A running CRC takes one more octet. -/
theorem crcRunning_append (v : CrcVariant) (p : List Octet) (o : Octet) :
    crcRunning v (p ++ [o]) = crcUpdate v (crcRunning v p) o := by
  simp [crcRunning]

/-- On an open link RXD may move to any state that its own part of the invariant allows. -/
theorem inv_of_rxd_move (h : s.Inv) (hopen : s.linkOpen = true) {st : RxdState} {acc : List Octet} {crc : Word16}
    {lo : Octet} (hr : RxdInv { s with stRxd := st, rxAcc := acc, rxCrc := crc, fcsLo := lo }) :
    ({ s with stRxd := st, rxAcc := acc, rxCrc := crc, fcsLo := lo } : State).Inv where
  config := h.config.congr
  memory := h.memory.congr
  queues := h.queues.congr
  rxd := hr
  txf := h.txf.congr
  arb := h.arb.congr
  link := h.link.congr_of_open hopen

/-- While hunting, RXD moves between the hunting states with nothing received. -/
theorem huntMove_keeps_inv (h : s.Inv) (hopen : s.linkOpen = true) (hs : Hunting s) {st : RxdState}
    (hst : st = .hunt0 ∨ st = .hunt1 ∨ st = .hunt2) : ({ s with stRxd := st } : State).Inv := by
  obtain ⟨hacc, hcrc⟩ := h.rxd.hunting hs
  have hlo : s.fcsLo = 0 := h.rxd.fcs_lo (by rcases hs with hs | hs | hs <;> simp [hs])
  exact inv_of_rxd_move h hopen (rxdInv_of_hunting hst hacc hcrc hlo)

theorem rxdHunt0_keeps_inv (o : Octet) (h : s.Inv) (hopen : s.linkOpen = true) (hs : s.stRxd = .hunt0) :
    (rxdHunt0 o s).Inv := by
  refine huntMove_keeps_inv h hopen (.inl hs) ?_
  split <;> simp

theorem rxdHunt1_keeps_inv (o : Octet) (h : s.Inv) (hopen : s.linkOpen = true) (hs : s.stRxd = .hunt1) :
    (rxdHunt1 o s).Inv := by
  refine huntMove_keeps_inv h hopen (.inr (.inl hs)) ?_
  split <;> simp

/-- The start delimiter starts the running CRC of the empty payload (R183). -/
theorem rxdHunt2_keeps_inv (o : Octet) (h : s.Inv) (hopen : s.linkOpen = true) (hs : s.stRxd = .hunt2) :
    (rxdHunt2 o s).Inv := by
  unfold rxdHunt2
  split
  · refine inv_of_rxd_move h hopen (st := .data) (acc := []) ?_
    exact {
      acc_le := Nat.zero_le _
      hunting := by simp [Hunting]
      payload := fun _ => rfl
      trailer := by simp
      fcs_lo := fun _ => h.rxd.fcs_lo (by simp [hs]) }
  · exact huntMove_keeps_inv h hopen (.inr (.inr hs)) (.inl rfl)

/-- A payload octet is taken with its running CRC, or dropped with the frame when the payload is full (R184, R186). -/
theorem rxdAppend_keeps_inv (o : Octet) (h : s.Inv) (hopen : s.linkOpen = true)
    (hs : s.stRxd = .data ∨ s.stRxd = .esc) : (rxdAppend o s).Inv := by
  unfold rxdAppend
  split
  case isTrue => exact frameError_keeps_inv .overflow h
  case isFalse hfull =>
    refine inv_of_rxd_move h hopen (st := .data) (acc := s.rxAcc ++ [o]) ?_
    exact {
      acc_le := by simpa using Nat.lt_of_le_of_ne h.rxd.acc_le hfull
      hunting := by simp [Hunting]
      payload := fun _ => by
        show crcUpdate s.params.crcVariant s.rxCrc o = crcRunning s.params.crcVariant (s.rxAcc ++ [o])
        rw [crcRunning_append, h.rxd.payload hs]
      trailer := by simp
      fcs_lo := fun _ => h.rxd.fcs_lo (by rcases hs with hs | hs <;> simp [hs]) }

theorem rxdData_keeps_inv (o : Octet) (h : s.Inv) (hopen : s.linkOpen = true) (hs : s.stRxd = .data) :
    (rxdData o s).Inv := by
  unfold rxdData
  split
  · refine inv_of_rxd_move h hopen (st := .esc) ?_
    exact {
      acc_le := h.rxd.acc_le
      hunting := by simp [Hunting]
      payload := fun _ => h.rxd.payload (.inl hs)
      trailer := by simp
      fcs_lo := fun _ => h.rxd.fcs_lo (by simp [hs]) }
  · exact rxdAppend_keeps_inv o h hopen (.inl hs)

/-- The end delimiter's ETX enters the running CRC, which the trailer is compared with (R187). -/
theorem rxdEsc_keeps_inv (o : Octet) (h : s.Inv) (hopen : s.linkOpen = true) (hs : s.stRxd = .esc) :
    (rxdEsc o s).Inv := by
  unfold rxdEsc
  split
  · exact rxdAppend_keeps_inv dle h hopen (.inr hs)
  split
  · refine inv_of_rxd_move h hopen (st := .fcs1) ?_
    exact {
      acc_le := h.rxd.acc_le
      hunting := by simp [Hunting]
      payload := by simp
      trailer := fun _ => by
        show crcUpdate s.params.crcVariant s.rxCrc etx = crcRunning s.params.crcVariant (s.rxAcc ++ [etx])
        rw [crcRunning_append, h.rxd.payload (.inr hs)]
      fcs_lo := fun _ => h.rxd.fcs_lo (by simp [hs]) }
  · exact frameError_keeps_inv .escape h

theorem rxdFcs1_keeps_inv (o : Octet) (h : s.Inv) (hopen : s.linkOpen = true) (hs : s.stRxd = .fcs1) :
    (rxdFcs1 o s).Inv :=
  inv_of_rxd_move h hopen (st := .fcs2)
    { acc_le := h.rxd.acc_le
      hunting := by simp [Hunting]
      payload := by simp
      trailer := fun _ => h.rxd.trailer (.inl hs)
      fcs_lo := by simp }

theorem rxdOctet_keeps_inv {o : Octet} (h : s.Inv) (hopen : s.linkOpen = true) (he : rxdOctet o s = .next t) :
    t.Inv := by
  rcases rxdOctet_cases he with ⟨hs, rfl⟩ | ⟨hs, rfl⟩ | ⟨hs, rfl⟩ | ⟨hs, rfl⟩ | ⟨hs, rfl⟩ | ⟨hs, rfl⟩ |
    ⟨-, -, u, hu, rfl⟩ | ⟨-, -, rfl⟩
  · exact rxdHunt0_keeps_inv o h hopen hs
  · exact rxdHunt1_keeps_inv o h hopen hs
  · exact rxdHunt2_keeps_inv o h hopen hs
  · exact rxdData_keeps_inv o h hopen hs
  · exact rxdEsc_keeps_inv o h hopen hs
  · exact rxdFcs1_keeps_inv o h hopen hs
  · exact rxdIdle_keeps_inv (frameGood_keeps_inv h h.rxd.acc_le hu)
  · exact frameError_keeps_inv .crc h

theorem rxdStep_keeps_inv (h : s.Inv) (he : rxdStep s = .next t) : t.Inv := by
  rcases rxdStep_cases he with rfl | ⟨x, rest, hopen, -, hx⟩
  · exact h
  · have htaken : ({ s with rxIn := rest } : State).Inv := h.of_core_eq
    cases x with
    | octet o => exact rxdOctet_keeps_inv htaken hopen hx
    | eos => cases hx; exact rxdEos_keeps_inv hopen htaken

/-! ## TXF -/

theorem txfAbort_keeps_inv (h : s.Inv) : (txfAbort s).Inv where
  config := h.config.congr
  memory := h.memory.congr
  queues := h.queues.congr
  rxd := h.rxd.congr
  txf := txfInv_of_idle
  arb := h.arb.congr
  link := ⟨fun hc => let ⟨ha, hq, _, hr⟩ := h.link.closed hc; ⟨ha, hq, rfl, hr⟩, h.link.opened, h.link.eos_iff,
    h.link.no_la⟩

/-- After an octet other than the last, TXF is still within its frame (R162). -/
theorem txfEmit_keeps_inv (o : Octet) (h : s.Inv) (hbusy : s.stTxf = .busy) : (txfEmit o s).Inv := by
  obtain ⟨hidx, hwire, harb⟩ := h.txf.busy hbusy
  unfold txfEmit
  split
  case isTrue =>
    have hemitted : ({ s with txOut := s.txOut ++ [o] } : State).Inv := h.of_core_eq
    exact txfAbort_keeps_inv hemitted
  case isFalse hlast =>
    exact {
      config := h.config.congr
      memory := h.memory.congr
      queues := h.queues.congr
      rxd := h.rxd.congr
      txf := ⟨by simp [hbusy], fun _ => ⟨Nat.lt_of_le_of_ne hidx hlast, hwire, harb⟩⟩
      arb := h.arb.congr
      link := h.link.congr }

theorem txfStep_keeps_inv (h : s.Inv) (he : txfStep s = .next t) : t.Inv := by
  rcases txfStep_cases he with rfl | ⟨o, hbusy, -, -, rfl⟩
  · exact h
  · exact txfEmit_keeps_inv o h hbusy

/-! ## ARB and TMR -/

/-- IDLE, pop (R271): the pending record is the entry's. -/
theorem arbPop_keeps_inv {e : TxEntry} {rest : List TxEntry} (h : s.Inv) (hopen : s.linkOpen = true)
    (ha : s.stArb = .idle) (hq : s.txq = e :: rest) : (arbPop e rest s).Inv where
  config := h.config.congr
  memory := h.memory.congr
  queues :=
    { txq_le := by
        have := h.queues.txq_le
        rw [hq] at this
        exact (Nat.le_succ _).trans this
      rxq_le := h.queues.rxq_le
      txq_payload := fun x hx => h.queues.txq_payload x (hq ▸ List.mem_cons_of_mem e hx)
      txq_seq := fun x hx => h.queues.txq_seq x (hq ▸ List.mem_cons_of_mem e hx)
      rxq_payload := h.queues.rxq_payload }
  rxd := h.rxd.congr
  txf := h.txf.congr_of_idle (h.txf.idle_of_not_sending (by simp [ha]))
  arb :=
    { valid_iff := by simp [arbPop]
      nothing := by simp [arbPop]
      kind := fun _ => ⟨e.kind, rfl, rfl, h.queues.txq_seq e (by simp [hq])⟩
      payload_le := h.queues.txq_payload e (by simp [hq])
      timer := fun _ => h.arb.timer (by simp [ha])
      hold_attempts := by simp [arbPop]
      begun := by simp [arbPop]
      wait_needs := by simp [arbPop]
      once := by simp [arbPop]
      matched := by simp [arbPop] }
  link := h.link.congr_of_open hopen

theorem encodeFrame_length_pos (v : CrcVariant) (p : List Octet) : 0 < (encodeFrame v p).length := by
  simp [encodeFrame]

/-- HOLD, attempt start (R273): ATTEMPTS does not wrap, and a packet that needs no acknowledgement is attempted once. -/
theorem attemptStart_keeps_inv (h : s.Inv) (hopen : s.linkOpen = true) (ha : s.stArb = .hold)
    (hm : s.ackMatch = false) : (attemptStart s).Inv := by
  have hvalid : s.pendingValid = true := h.arb.valid_iff.2 (by simp [ha])
  have hattempts : (s.attempts + 1).toNat = s.attempts.toNat + 1 :=
    BitVec.toNat_add_of_lt (Nat.lt_of_le_of_lt (Nat.add_le_add_right (h.arb.hold_attempts ha) 1) (by decide))
  exact {
    config := h.config.congr
    memory := h.memory.congr
    queues := h.queues.congr
    rxd := h.rxd.congr
    txf := ⟨by simp [attemptStart, txfStart], fun _ => ⟨encodeFrame_length_pos _ _, rfl, rfl⟩⟩
    arb :=
      { valid_iff := by simp [attemptStart, txfStart, hvalid]
        nothing := by simp [attemptStart, txfStart, hvalid]
        kind := h.arb.kind
        payload_le := h.arb.payload_le
        timer := fun _ => h.arb.timer (by simp [ha])
        hold_attempts := by simp [attemptStart]
        begun := fun _ => by
          show 1 ≤ (s.attempts + 1).toNat
          omega
        wait_needs := by simp [attemptStart]
        once := fun hn => by
          refine ⟨by simp [attemptStart], ?_⟩
          show (s.attempts + 1).toNat ≤ 1
          rw [hattempts, (h.arb.once hn).1 ha]
          decide
        matched := by simp [attemptStart, txfStart, hm] }
    link := h.link.congr_of_open hopen }

theorem completeAcked_keeps_inv (h : s.Inv) (hopen : s.linkOpen = true) (hidle : s.stTxf = .idle) :
    (completeAcked s).Inv where
  config := h.config.congr
  memory := h.memory.congr
  queues := h.queues.congr
  rxd := h.rxd.congr
  txf := h.txf.congr_of_idle hidle
  arb := arbInv_of_idle
  link := h.link.congr_of_open hopen

/-- A packet that needs no acknowledgement has none to drop when it is sent (R277). -/
theorem completeSent_keeps_inv (h : s.Inv) (hopen : s.linkOpen = true) (hidle : s.stTxf = .idle)
    (ha : s.stArb = .sending) (hn : s.needsAck = false) : (completeSent s).Inv where
  config := h.config.congr
  memory := h.memory.congr
  queues := h.queues.congr
  rxd := h.rxd.congr
  txf := h.txf.congr_of_idle hidle
  arb := by
    have hmatch : s.ackMatch = false := by
      by_contra hne
      have hneeds := (h.arb.matched (Bool.eq_true_of_not_eq_false hne)).1
      exact absurd (hneeds.symm.trans hn) (by decide)
    exact arbInv_of_idle (hn := ⟨rfl, rfl, rfl, rfl, hmatch⟩) (ht := h.arb.timer (by simp [ha]))
  link := h.link.congr_of_open hopen

/-- A packet that needs an acknowledgement waits for it, whatever CFG_TIMEOUT holds (R274, R280). -/
theorem enterWait_keeps_inv (h : s.Inv) (hopen : s.linkOpen = true) (hidle : s.stTxf = .idle)
    (ha : s.stArb = .sending) (hn : s.needsAck = true) : (enterWait s).Inv where
  config := h.config.congr
  memory := h.memory.congr
  queues := h.queues.congr
  rxd := h.rxd.congr
  txf := h.txf.congr_of_idle hidle
  arb :=
    { valid_iff := by simp [enterWait, h.arb.valid_iff, ha]
      nothing := h.arb.nothing
      kind := h.arb.kind
      payload_le := h.arb.payload_le
      timer := by simp [enterWait]
      hold_attempts := by simp [enterWait]
      begun := fun _ => h.arb.begun (.inl ha)
      wait_needs := fun _ => hn
      once := by simp [enterWait, hn]
      matched := h.arb.matched }
  link := h.link.congr_of_open hopen

theorem frameSent_keeps_inv (h : s.Inv) (hopen : s.linkOpen = true) (hidle : s.stTxf = .idle)
    (ha : s.stArb = .sending) : (frameSent s).Inv := by
  have hsent : (irqSet .txSent s).Inv := h.of_core_eq
  unfold frameSent
  cases hn : s.needsAck
  case false => simpa [hn] using completeSent_keeps_inv hsent hopen hidle ha hn
  case true =>
    cases hm : s.ackMatch
    case false => simpa [hn, hm] using enterWait_keeps_inv hsent hopen hidle ha hn
    case true => simpa [hn, hm] using completeAcked_keeps_inv hsent hopen hidle

/-- A retry returns to HOLD below CFG_RETRY, so the next attempt does not wrap ATTEMPTS (R284). -/
theorem failedAttempt_keeps_inv (h : s.Inv) (hopen : s.linkOpen = true) (ha : s.stArb = .wait) :
    (failedAttempt s).Inv := by
  unfold failedAttempt
  split
  case isTrue => exact closeLinkWith_keeps_inv (by decide) h
  case isFalse hbudget =>
    exact {
      config := h.config.congr
      memory := h.memory.congr
      queues := h.queues.congr
      rxd := h.rxd.congr
      txf := h.txf.congr_of_idle (h.txf.idle_of_not_sending (by simp [ha]))
      arb :=
        { valid_iff := by simp [h.arb.valid_iff, ha]
          nothing := h.arb.nothing
          kind := h.arb.kind
          payload_le := h.arb.payload_le
          timer := fun _ => rfl
          hold_attempts := fun _ => by
            have := s.cfgRetry.isLt
            show s.attempts.toNat ≤ 254
            omega
          begun := by simp
          wait_needs := by simp
          once := by simp [h.arb.wait_needs ha]
          matched := h.arb.matched }
      link := h.link.congr_of_open hopen }

theorem arbStep_keeps_inv (h : s.Inv) : (arbStep s).Inv := by
  rcases arbStep_cases s with heq | ⟨hopen, ⟨e, rest, ha, hq, heq⟩ | ⟨ha, hm, -, -, heq⟩ | ⟨ha, hidle, heq⟩ |
    ⟨ha, -, heq⟩ | ⟨ha, -, -, heq⟩⟩ <;> rw [heq]
  · exact h
  · exact arbPop_keeps_inv h hopen ha hq
  · exact attemptStart_keeps_inv h hopen ha hm
  · exact frameSent_keeps_inv h hopen hidle ha
  · exact completeAcked_keeps_inv h hopen (h.txf.idle_of_not_sending (by rcases ha with ha | ha <;> simp [ha]))
  · exact failedAttempt_keeps_inv h hopen ha

/-- The timer runs in WAIT only, where it may have any value (R281). -/
theorem tmrTick_keeps_inv (h : s.Inv) : (tmrTick s).Inv := by
  unfold tmrTick
  split
  case isTrue hrun =>
    exact {
      config := h.config.congr
      memory := h.memory.congr
      queues := h.queues.congr
      rxd := h.rxd.congr
      txf := h.txf.congr
      arb := ⟨h.arb.valid_iff, h.arb.nothing, h.arb.kind, h.arb.payload_le, fun hw => absurd hrun.1 hw,
        h.arb.hold_attempts, h.arb.begun, h.arb.wait_needs, h.arb.once, h.arb.matched⟩
      link := h.link.congr }
  case isFalse => exact h

/-! ## Steps -/

theorem runEvent_keeps_inv {e : Event} (h : s.Inv) (he : runEvent e s = .next t) : t.Inv := by
  cases e with
  | host a => exact hostAccess_keeps_inv h he
  | rxd => exact rxdStep_keeps_inv h he
  | txf => exact txfStep_keeps_inv h he
  | arb => cases he; exact arbStep_keeps_inv h
  | tick => cases he; exact tmrTick_keeps_inv h
  | offer x => cases he; exact h.of_core_eq
  | setTxReady b => cases he; exact h.of_core_eq
  | setSendAllowed b => cases he; exact h.of_core_eq
  | rst => cases he; exact applyReset_keeps_inv h

theorem step_keeps_inv (h : s.Inv) (he : step s = .next t) : t.Inv := by
  rcases step_cases he with ⟨-, rfl⟩ | ⟨e, rest, -, hrun⟩
  · exact h
  · have htaken : ({ s with schedule := rest } : State).Inv := h.of_core_eq
    exact runEvent_keeps_inv htaken hrun

end InvariantParts

/-- Settles O52: the queues are empty, every agent is idle, and the reset configuration is in range for every legal MAXPKT. -/
theorem invariantHoldsAtReset : Obligations.InvariantHoldsAtReset :=
  ⟨resetWith_inv (by decide), fun _ hp => resetWith_inv hp⟩

/-- Settles O53: each agent's turn, each host access and each input keeps every part of the invariant. -/
theorem stepKeepsInvariant : Obligations.StepKeepsInvariant :=
  fun _ _ h he => step_keeps_inv h he

end Sys2Proof.Machine

namespace Sys2Proof.Machine

section TransmitStream

variable {s t u : State}

/-! ## The parameters and the transmit stream -/

/-- The parameters and the octets emitted are those of the state before. -/
def SameStream (s t : State) : Prop := t.params = s.params ∧ t.txOut = s.txOut

theorem SameStream.trans (h : SameStream s t) (h' : SameStream t u) : SameStream s u :=
  ⟨h'.1.trans h.1, h'.2.trans h.2⟩

theorem closeLinkWith_sameStream (c : CloseCause) (s : State) : SameStream s (closeLinkWith c s) := by
  cases hopen : s.linkOpen
  case false => rw [closeLinkWith_closed hopen]; exact ⟨rfl, rfl⟩
  case true => rw [closeLinkWith_open hopen, closeOpenLink_eq]; exact ⟨rfl, rfl⟩

theorem openSession_sameStream (s : State) : SameStream s (openSession s) := by
  rw [openSession_eq]
  exact ⟨rfl, rfl⟩

theorem runCommand_sameStream (check : CmdErr) (h : SameStream s t) : SameStream s (runCommand check t s) := by
  rcases runCommand_cases check t s with ⟨-, heq⟩ | ⟨-, heq⟩ <;> rw [heq]
  · exact h
  · exact ⟨rfl, rfl⟩

theorem withRxRoom_sameStream (h : SameStream s t) : SameStream s (withRxRoom s t) := by
  by_cases hroom : s.rxq.length = s.params.rxqDepth
  · rw [withRxRoom_full hroom]; exact ⟨rfl, rfl⟩
  · rw [withRxRoom_room hroom]; exact h

theorem seqFilter_sameStream (q : Octet) (p : List Octet) (s : State) : SameStream s (seqFilter q p s) := by
  unfold seqFilter
  split <;> exact ⟨rfl, rfl⟩

/-- No instruction emits an octet: commands only queue packets and received packets only reach RXQ. -/
theorem exec_sameStream {i : Instr} (he : exec i s = .next t) : SameStream s t := by
  cases i <;> cases he
  case nop => exact ⟨rfl, rfl⟩
  case sendLr => exact runCommand_sameStream _ ⟨rfl, rfl⟩
  case sendLd => exact runCommand_sameStream _ ⟨rfl, rfl⟩
  case sendLt => exact runCommand_sameStream _ ⟨rfl, rfl⟩
  case sendLa => exact runCommand_sameStream _ ⟨rfl, rfl⟩
  case closeLink => exact closeLinkWith_sameStream .host s
  case openLink => exact runCommand_sameStream _ (openSession_sameStream s)
  case rxRelease => exact runCommand_sameStream _ ⟨rfl, rfl⟩
  case clrCounters => exact ⟨rfl, rfl⟩
  case rxLr => exact withRxRoom_sameStream ⟨rfl, rfl⟩
  case rxLd => exact withRxRoom_sameStream ⟨rfl, rfl⟩
  case rxLt => exact withRxRoom_sameStream (seqFilter_sameStream _ _ _)
  case rxLa len q c data =>
    exact withRxRoom_sameStream (s := laReceive q c s) ⟨rfl, rfl⟩

theorem cmdWrite_sameStream {w : Word} (he : cmdWrite w s = .next t) : SameStream s t := by
  unfold cmdWrite at he
  split at he
  case h_1 => exact exec_sameStream he
  case h_2 r _ => cases he; cases r <;> exact ⟨rfl, rfl⟩

theorem writeWord_sameStream (off : Nat) (v : Word) (s : State) : SameStream s (writeWord off v s) := by
  unfold writeWord
  split
  · obtain ⟨m, heq, -⟩ := writeTxBufWord_spec (off - txBufBase) v s
    rw [heq]
    exact ⟨rfl, rfl⟩
  · unfold writeRegister
    split <;> exact ⟨rfl, rfl⟩

theorem hostAccess_sameStream {a : Access} (he : hostAccess a s = .next t) : SameStream s t := by
  cases a with
  | read addr => cases he; exact ⟨rfl, rfl⟩
  | write addr v =>
    simp only [hostAccess, memWrite] at he
    split at he
    · exact cmdWrite_sameStream he
    · cases he; exact writeWord_sameStream _ v s

theorem frameGood_sameStream {p : List Octet} (he : frameGood p s = .next t) : SameStream s t := by
  unfold frameGood at he
  split at he
  · exact exec_sameStream he
  · cases he; exact withRxRoom_sameStream ⟨rfl, rfl⟩

theorem rxdAppend_sameStream (o : Octet) (s : State) : SameStream s (rxdAppend o s) := by
  unfold rxdAppend
  split <;> exact ⟨rfl, rfl⟩

theorem rxdOctet_sameStream {o : Octet} (he : rxdOctet o s = .next t) : SameStream s t := by
  rcases rxdOctet_cases he with ⟨-, rfl⟩ | ⟨-, rfl⟩ | ⟨-, rfl⟩ | ⟨-, rfl⟩ | ⟨-, rfl⟩ | ⟨-, rfl⟩ |
    ⟨-, -, u, hu, rfl⟩ | ⟨-, -, rfl⟩
  · exact ⟨rfl, rfl⟩
  · exact ⟨rfl, rfl⟩
  · unfold rxdHunt2
    split <;> exact ⟨rfl, rfl⟩
  · unfold rxdData
    split
    · exact ⟨rfl, rfl⟩
    · exact rxdAppend_sameStream o s
  · unfold rxdEsc
    split
    · exact rxdAppend_sameStream dle s
    · split <;> exact ⟨rfl, rfl⟩
  · exact ⟨rfl, rfl⟩
  · exact (frameGood_sameStream hu).trans ⟨rfl, rfl⟩
  · exact ⟨rfl, rfl⟩

theorem rxdStep_sameStream (he : rxdStep s = .next t) : SameStream s t := by
  rcases rxdStep_cases he with rfl | ⟨x, rest, -, -, hx⟩
  · exact ⟨rfl, rfl⟩
  · cases x with
    | octet o => exact rxdOctet_sameStream (s := { s with rxIn := rest }) hx
    | eos => cases hx; exact closeLinkWith_sameStream .eos { rxdIdle { s with rxIn := rest } with eosSeen := true }

theorem frameSent_sameStream (s : State) : SameStream s (frameSent s) := by
  unfold frameSent
  dsimp only
  split
  · exact ⟨rfl, rfl⟩
  · split <;> exact ⟨rfl, rfl⟩

theorem failedAttempt_sameStream (s : State) : SameStream s (failedAttempt s) := by
  unfold failedAttempt
  split
  · exact closeLinkWith_sameStream .timeout s
  · exact ⟨rfl, rfl⟩

theorem arbStep_sameStream (s : State) : SameStream s (arbStep s) := by
  rcases arbStep_cases s with heq | ⟨-, ⟨e, rest, -, -, heq⟩ | ⟨-, -, -, -, heq⟩ | ⟨-, -, heq⟩ | ⟨-, -, heq⟩ |
    ⟨-, -, -, heq⟩⟩ <;> rw [heq]
  · exact ⟨rfl, rfl⟩
  · exact ⟨rfl, rfl⟩
  · exact ⟨rfl, rfl⟩
  · exact frameSent_sameStream s
  · exact ⟨rfl, rfl⟩
  · exact failedAttempt_sameStream s

theorem tmrTick_sameStream (s : State) : SameStream s (tmrTick s) := by
  unfold tmrTick
  split <;> exact ⟨rfl, rfl⟩

/-- Only TXF's turn emits. -/
theorem runEvent_sameStream {e : Event} (hne : e ≠ .txf) (he : runEvent e s = .next t) : SameStream s t := by
  cases e with
  | host a => exact hostAccess_sameStream he
  | rxd => exact rxdStep_sameStream he
  | txf => exact absurd rfl hne
  | arb => cases he; exact arbStep_sameStream s
  | tick => cases he; exact tmrTick_sameStream s
  | offer x => cases he; exact ⟨rfl, rfl⟩
  | setTxReady b => cases he; exact ⟨rfl, rfl⟩
  | setSendAllowed b => cases he; exact ⟨rfl, rfl⟩
  | rst => cases he; exact ⟨rfl, rfl⟩

/-- TXF emits at most one octet in its turn (R162, R163). -/
theorem txfStep_stream (he : txfStep s = .next t) :
    t.params = s.params ∧ (t.txOut = s.txOut ∨ ∃ o, t.txOut = s.txOut ++ [o]) := by
  rcases txfStep_cases he with rfl | ⟨o, -, -, -, rfl⟩
  · exact ⟨rfl, .inl rfl⟩
  · unfold txfEmit
    split <;> exact ⟨rfl, .inr ⟨o, rfl⟩⟩

end TransmitStream

/-- Settles O59, by the event at the head of the schedule. -/
theorem transmitStreamOnlyGrows : Obligations.TransmitStreamOnlyGrows := by
  intro s t he
  rcases step_cases he with ⟨-, rfl⟩ | ⟨e, rest, hsched, hrun⟩
  · exact ⟨rfl, .inl rfl⟩
  · by_cases htxf : e = .txf
    · subst htxf
      obtain ⟨hparams, hsame | ⟨o, hgrown⟩⟩ := txfStep_stream hrun
      · exact ⟨hparams, .inl hsame⟩
      · exact ⟨hparams, .inr ⟨o, rest, hsched, hgrown⟩⟩
    · obtain ⟨hparams, hsame⟩ := runEvent_sameStream htxf hrun
      exact ⟨hparams, .inl hsame⟩

end Sys2Proof.Machine

/-! The family of spec/10_state.md: what the host reads of every register, after reset and in every state, and what the
steps leave of the sticky bits, RXQ, the sequence counters and ACK_MATCH. -/

namespace Sys2Proof.Machine

section RegisterReads

variable {s : State}

/-! ## Where a read goes (20_memory.md R70, R72, R74) -/

/-- A read below the buffer windows is a register read, whatever the parameters are. -/
theorem memRead_register {addr : Offset} (h : addr.toNat < 0x1000) :
    memRead s addr = readRegister s (addr.toNat / 4 * 4) := by
  have hoff : addr.toNat / 4 * 4 < 0x1000 := by omega
  simp [memRead, readWord, wordOffset_eq, inWindow, txBufBase, rxBufBase, hoff.not_ge,
    (hoff.trans (by decide : 0x1000 < 0x2000)).not_ge]

/-- A word of RX_BUF's window, which TX_BUF's window ends before. -/
theorem memRead_rxWindow {addr : Offset} (hp : s.params.wf = true) (hlo : 0x2000 ≤ addr.toNat)
    (hhi : addr.toNat < 0x2000 + s.params.maxpkt) :
    memRead s addr = rxBufWord s (addr.toNat / 4 * 4 - 0x2000) := by
  have := maxpkt_range hp
  have htx : ¬ addr.toNat / 4 * 4 < 0x1000 + s.params.maxpkt := by omega
  have hrx : 0x2000 ≤ addr.toNat / 4 * 4 ∧ addr.toNat / 4 * 4 < 0x2000 + s.params.maxpkt := by omega
  simp [memRead, readWord, wordOffset_eq, inWindow, txBufBase, rxBufBase, htx, hrx]

/-- The offsets after the last register read 0. -/
theorem readRegister_reserved {off : Nat} (h : 0x04C ≤ off) : readRegister s off = 0 := by
  unfold readRegister
  split
  case h_19 => rfl
  all_goals omega

theorem maxpkt_aligned {p : Params} (h : p.wf = true) : p.maxpkt % 4 = 0 := by
  simp only [Params.wf, Bool.and_eq_true, beq_iff_eq] at h
  omega

/-- Beyond TX_BUF's window and outside RX_BUF's nothing is mapped. -/
theorem memRead_unmapped {addr : Offset} (hp : s.params.wf = true) (htx : 0x1000 + s.params.maxpkt ≤ addr.toNat)
    (hrx : addr.toNat < 0x2000 ∨ 0x2000 + s.params.maxpkt ≤ addr.toNat) : memRead s addr = 0 := by
  have := maxpkt_aligned hp
  have hnot_tx : ¬ addr.toNat / 4 * 4 < 0x1000 + s.params.maxpkt := by omega
  have hnot_rx : ¬ (0x2000 ≤ addr.toNat / 4 * 4 ∧ addr.toNat / 4 * 4 < 0x2000 + s.params.maxpkt) := by omega
  have hreserved : readRegister s (addr.toNat / 4 * 4) = 0 := readRegister_reserved (by omega)
  simpa [memRead, readWord, wordOffset_eq, inWindow, txBufBase, rxBufBase, hnot_tx, hreserved] using
    fun h h' => absurd ⟨h, h'⟩ hnot_rx

/-! ## The registers by offset -/

@[simp] theorem memRead_id : memRead s 0x000 = idWord := memRead_register (by decide)
@[simp] theorem memRead_status : memRead s 0x008 = statusWord s := memRead_register (by decide)
@[simp] theorem memRead_irqStatus : memRead s 0x00C = s.irqStatus.setWidth 32 := memRead_register (by decide)
@[simp] theorem memRead_irqEnable : memRead s 0x010 = s.irqEnable.setWidth 32 := memRead_register (by decide)
@[simp] theorem memRead_cfgTimeout : memRead s 0x014 = s.cfgTimeout := memRead_register (by decide)
@[simp] theorem memRead_cfgRetry : memRead s 0x018 = s.cfgRetry.setWidth 32 := memRead_register (by decide)
@[simp] theorem memRead_cfgMaxinfo : memRead s 0x01C = s.cfgMaxinfo.setWidth 32 := memRead_register (by decide)
@[simp] theorem memRead_txLen : memRead s 0x020 = s.txLen.setWidth 32 := memRead_register (by decide)
@[simp] theorem memRead_seqState : memRead s 0x024 = seqStateWord s := memRead_register (by decide)
@[simp] theorem memRead_ackState : memRead s 0x028 = ackStateWord s := memRead_register (by decide)
@[simp] theorem memRead_arbState : memRead s 0x02C = arbStateWord s := memRead_register (by decide)
@[simp] theorem memRead_timer : memRead s 0x030 = s.timer := memRead_register (by decide)
@[simp] theorem memRead_queueState : memRead s 0x034 = queueStateWord s := memRead_register (by decide)
@[simp] theorem memRead_rxHead0 : memRead s 0x038 = rxHead0Word s := memRead_register (by decide)
@[simp] theorem memRead_rxHead1 : memRead s 0x03C = rxHead1Word s := memRead_register (by decide)
@[simp] theorem memRead_cntFrameErr : memRead s 0x040 = s.cntFrameErr.setWidth 32 := memRead_register (by decide)
@[simp] theorem memRead_cntSeqDrop : memRead s 0x044 = s.cntSeqDrop.setWidth 32 := memRead_register (by decide)
@[simp] theorem memRead_cntRxOverflow : memRead s 0x048 = s.cntRxOverflow.setWidth 32 := memRead_register (by decide)

/-! ## Fields of the computed registers (10_state.md R23, R31 to R33, R36 to R38) -/

theorem statusWord_flags (s : State) :
    (statusWord s).getLsbD 0 = s.linkOpen ∧ (statusWord s).getLsbD 1 = txIdle s ∧
    (statusWord s).getLsbD 2 = txqFull s ∧ (statusWord s).getLsbD 3 = rxqNonempty s ∧
    (statusWord s).getLsbD 4 = rxqFull s ∧ (statusWord s).getLsbD 5 = s.sendAllowed ∧
    (statusWord s).getLsbD 6 = s.eosSeen ∧ (statusWord s).getLsbD 7 = txfBusy s ∧
    (statusWord s).getLsbD 11 = false := by
  simp only [statusWord, BitVec.getLsbD_append, BitVec.getLsbD_ofBool, BitVec.getLsbD_zero, Nat.reduceLT, Nat.reduceSub,
    if_true, if_false, decide_true, Bool.true_and, and_self]

theorem statusWord_codes (s : State) :
    (statusWord s).extractLsb' 8 3 = s.stRxd.code ∧ (statusWord s).extractLsb' 12 3 = closeCauseCode s.closeCause ∧
    (statusWord s).extractLsb' 15 9 = 0#9 ∧ (statusWord s).extractLsb' 24 8 = s.cmdErr.code := by
  unfold statusWord
  simp only [BitVec.extractLsb'_append_eq_of_le, BitVec.extractLsb'_append_eq_right, BitVec.extractLsb'_eq_self,
    Nat.reduceLeDiff, Nat.reduceSub, and_self]

theorem seqStateWord_fields (s : State) :
    (seqStateWord s).extractLsb' 0 8 = s.txSeq ∧ (seqStateWord s).extractLsb' 8 8 = s.rxLast ∧
    (seqStateWord s).extractLsb' 16 16 = 0#16 := by
  unfold seqStateWord
  simp only [BitVec.extractLsb'_append_eq_of_le, BitVec.extractLsb'_append_eq_right, BitVec.extractLsb'_eq_self,
    Nat.reduceLeDiff, Nat.reduceSub, and_self]

theorem ackStateWord_fields (s : State) :
    (ackStateWord s).extractLsb' 0 8 = s.lastAckSeq ∧ (ackStateWord s).extractLsb' 8 8 = s.lastCredit ∧
    (ackStateWord s).getLsbD 16 = s.laSeen ∧ (ackStateWord s).extractLsb' 17 15 = 0#15 := by
  unfold ackStateWord
  simp only [BitVec.extractLsb'_append_eq_of_le, BitVec.extractLsb'_append_eq_right, BitVec.extractLsb'_eq_self,
    BitVec.getLsbD_append, BitVec.getLsbD_ofBool, Nat.reduceLeDiff, Nat.reduceLT, Nat.reduceSub, if_true, if_false,
    decide_true, Bool.true_and, and_self]

theorem arbStateWord_fields (s : State) :
    (arbStateWord s).extractLsb' 0 2 = s.stArb.code ∧ (arbStateWord s).getLsbD 2 = s.ackMatch ∧
    (arbStateWord s).getLsbD 3 = s.pendingValid ∧ (arbStateWord s).extractLsb' 4 4 = 0#4 ∧
    (arbStateWord s).extractLsb' 8 8 = s.attempts ∧ (arbStateWord s).extractLsb' 16 8 = s.pendingSeq ∧
    (arbStateWord s).extractLsb' 24 8 = pendingKindCode s.pendingKind := by
  unfold arbStateWord
  simp only [BitVec.extractLsb'_append_eq_of_le, BitVec.extractLsb'_append_eq_right, BitVec.extractLsb'_eq_self,
    BitVec.getLsbD_append, BitVec.getLsbD_ofBool, Nat.reduceLeDiff, Nat.reduceLT, Nat.reduceSub, if_true, if_false,
    decide_true, Bool.true_and, and_self]

theorem queueStateWord_fields (s : State) :
    (queueStateWord s).extractLsb' 0 8 = BitVec.ofNat 8 s.txq.length ∧
    (queueStateWord s).extractLsb' 8 8 = BitVec.ofNat 8 s.rxq.length ∧
    (queueStateWord s).extractLsb' 16 16 = 0#16 := by
  unfold queueStateWord
  simp only [BitVec.extractLsb'_append_eq_of_le, BitVec.extractLsb'_append_eq_right, BitVec.extractLsb'_eq_self,
    Nat.reduceLeDiff, Nat.reduceSub, and_self]

theorem rxHead0Word_of_cons {e : RxEntry} {rest : List RxEntry} (h : s.rxq = e :: rest) :
    (rxHead0Word s).extractLsb' 0 16 = BitVec.ofNat 16 e.payload.length ∧
    (rxHead0Word s).extractLsb' 16 8 = e.kind.code ∧ (rxHead0Word s).extractLsb' 24 7 = 0#7 ∧
    (rxHead0Word s).getLsbD 31 = true := by
  simp only [rxHead0Word, h]
  simp only [BitVec.extractLsb'_append_eq_of_le, BitVec.extractLsb'_append_eq_right,
    BitVec.getLsbD_append, BitVec.getLsbD_one, Nat.reduceLeDiff, Nat.reduceLT, Nat.reduceSub, if_false, decide_true,
    Bool.true_and, and_self]

theorem rxHead1Word_of_cons {e : RxEntry} {rest : List RxEntry} (h : s.rxq = e :: rest) :
    (rxHead1Word s).extractLsb' 0 8 = e.seq ∧ (rxHead1Word s).extractLsb' 8 8 = e.credit ∧
    (rxHead1Word s).extractLsb' 16 16 = 0#16 := by
  simp only [rxHead1Word, h]
  simp only [BitVec.extractLsb'_append_eq_of_le, BitVec.extractLsb'_append_eq_right, BitVec.extractLsb'_eq_self,
    Nat.reduceLeDiff, Nat.reduceSub, and_self]

theorem rxHeadWords_of_nil (h : s.rxq = []) : rxHead0Word s = 0 ∧ rxHead1Word s = 0 := by
  simp [rxHead0Word, rxHead1Word, h]

/-! ## RX_BUF's words (10_state.md R42, 20_memory.md R73) -/

/-- Octet `i` of a word is the `i`-th of its four octets. -/
theorem extract_wordOf (f : Nat → Octet) {i : Nat} (h : i < 4) :
    (wordOf (f 0) (f 1) (f 2) (f 3)).extractLsb' (8 * i) 8 = f i := by
  unfold wordOf
  interval_cases i <;>
    simp only [BitVec.extractLsb'_append_eq_of_le, BitVec.extractLsb'_append_eq_right, BitVec.extractLsb'_eq_self,
      Nat.reduceLeDiff, Nat.reduceSub, Nat.reduceMul]

theorem rxBufWord_octet (k : Nat) {i : Nat} (h : i < 4) :
    (rxBufWord s k).extractLsb' (8 * i) 8 = rxBufOctet s (k + i) :=
  extract_wordOf (fun j => rxBufOctet s (k + j)) h

/-- With RXQ empty the window is all zeros. -/
theorem rxBufWord_of_nil (h : s.rxq = []) (k : Nat) : rxBufWord s k = 0 := by
  simp [rxBufWord, rxBufOctet, h, wordOf]

/-! ## The flags as conditions (10_state.md R23, R29, R33) -/

theorem txIdle_iff (s : State) : txIdle s = true ↔ s.txq = [] ∧ s.stArb = .idle := by simp [txIdle]
theorem txqFull_iff (s : State) : txqFull s = true ↔ s.txq.length = s.params.txqDepth := by simp [txqFull]
theorem rxqFull_iff (s : State) : rxqFull s = true ↔ s.rxq.length = s.params.rxqDepth := by simp [rxqFull]
theorem txfBusy_iff (s : State) : txfBusy s = true ↔ s.stTxf = .busy := by simp [txfBusy]

theorem rxqNonempty_iff (s : State) : rxqNonempty s = true ↔ s.rxq ≠ [] := by
  simp [rxqNonempty, List.length_pos_iff]

/-- `irq` is the OR of the enabled interrupt bits (R29). -/
theorem irqLevel_iff (s : State) :
    irqLevel s = true ↔ ∃ i, i < 8 ∧ s.irqStatus.getLsbD i = true ∧ s.irqEnable.getLsbD i = true := by
  have zero_iff : s.irqStatus &&& s.irqEnable = 0#8 ↔
      ∀ i < 8, (s.irqStatus.getLsbD i && s.irqEnable.getLsbD i) = false := by
    refine ⟨fun h i _ => by rw [← BitVec.getLsbD_and, h, BitVec.getLsbD_zero], fun h => ?_⟩
    exact BitVec.eq_of_getLsbD_eq fun i hi => by rw [BitVec.getLsbD_and, h i hi, BitVec.getLsbD_zero]
  rw [irqLevel, bne_iff_ne, ne_eq, zero_iff]
  simp

/-- PENDING_KIND is 0x00 while nothing is pending (R33). -/
theorem pendingKindCode_of_nothing (h : s.Inv) (hv : s.pendingValid = false) :
    pendingKindCode s.pendingKind = 0x00 := by
  obtain ⟨hkind, -⟩ := h.arb.nothing hv
  rw [hkind]
  rfl

end RegisterReads

/-- Settles O43, register by register: each computed word's fields, then the registers that hold their element. -/
theorem statusAndStateFieldPositions : Obligations.StatusAndStateFieldPositions := by
  rintro s _ _ _ _ rfl rfl rfl rfl
  obtain ⟨hopen, hidle, htxqFull, hrxqNonempty, hrxqFull, hallowed, heos, hbusy, hres11⟩ := statusWord_flags s
  obtain ⟨hrxd, hcause, hres15, herr⟩ := statusWord_codes s
  obtain ⟨htxSeq, hrxLast, hresSeq⟩ := seqStateWord_fields s
  obtain ⟨hackSeq, hcredit, hseen, hresAck⟩ := ackStateWord_fields s
  obtain ⟨harb, hmatch, hvalid, hresArb, hattempts, hpendingSeq, hkind⟩ := arbStateWord_fields s
  simp only [memRead_status, memRead_seqState, memRead_ackState, memRead_arbState]
  refine ⟨hopen, ?_, ?_, ?_, ?_, hallowed, heos, ?_, hrxd, hres11, hcause, hres15, herr, htxSeq, hrxLast, hresSeq,
    hackSeq, hcredit, hseen, hresAck, harb, hmatch, hvalid, hresArb, hattempts, hpendingSeq, ?_, ?_, memRead_id, ?_, ?_,
    memRead_cfgTimeout, ?_, ?_, ?_, memRead_timer, ?_, ?_, ?_, irqLevel_iff s⟩
  · rw [hidle, txIdle_iff]
  · rw [htxqFull, txqFull_iff]
  · rw [hrxqNonempty, rxqNonempty_iff]
  · rw [hrxqFull, rxqFull_iff]
  · rw [hbusy, txfBusy_iff]
  · rw [hkind]
    rcases s.pendingKind with _ | _ | _ | _ | _ <;> rfl
  · intro hinv hv
    rw [hkind, pendingKindCode_of_nothing hinv hv]
  · rw [memRead_irqStatus, BitVec.toNat_setWidth_of_le (by decide)]
  · rw [memRead_irqEnable, BitVec.toNat_setWidth_of_le (by decide)]
  · rw [memRead_cfgRetry, BitVec.toNat_setWidth_of_le (by decide)]
  · rw [memRead_cfgMaxinfo, BitVec.toNat_setWidth_of_le (by decide)]
  · rw [memRead_txLen, BitVec.toNat_setWidth_of_le (by decide)]
  · rw [memRead_cntFrameErr, BitVec.toNat_setWidth_of_le (by decide)]
  · rw [memRead_cntSeqDrop, BitVec.toNat_setWidth_of_le (by decide)]
  · rw [memRead_cntRxOverflow, BitVec.toNat_setWidth_of_le (by decide)]

section ReceiveWindow

variable {s : State}

/-- The queue depths fit in an octet (00_scope.md R9). -/
theorem depth_range {p : Params} (h : p.wf = true) :
    (1 ≤ p.txqDepth ∧ p.txqDepth ≤ 255) ∧ 1 ≤ p.rxqDepth ∧ p.rxqDepth ≤ 255 := by
  simp only [Params.wf, Bool.and_eq_true, decide_eq_true_eq] at h
  omega

/-- With RXQ empty, RX_BUF's region reads 0, in the window and beyond it. -/
theorem memRead_rxRegion_of_nil (hp : s.params.wf = true) (hq : s.rxq = []) {addr : Offset}
    (h : 0x2000 ≤ addr.toNat) : memRead s addr = 0 := by
  have := maxpkt_range hp
  by_cases hin : addr.toNat < 0x2000 + s.params.maxpkt
  · rw [memRead_rxWindow hp h hin, rxBufWord_of_nil hq]
  · exact memRead_unmapped hp (by omega) (.inr (by omega))

/-- RX_BUF's region reads the head payload octet by octet, and 0 beyond it, to the region's end. -/
theorem memRead_rxRegion_octet (h : s.Inv) {e : RxEntry} {rest : List RxEntry} (hq : s.rxq = e :: rest) {k : Nat}
    (hk : k < 0x1000) :
    (memRead s (BitVec.ofNat 14 (0x2000 + k))).extractLsb' (8 * (k % 4)) 8 = e.payload.getD k 0 := by
  have hp := h.config.params_wf
  have hrange := maxpkt_range hp
  have haddr : (BitVec.ofNat 14 (0x2000 + k)).toNat = 0x2000 + k := by
    rw [BitVec.toNat_ofNat]
    omega
  by_cases hin : k < s.params.maxpkt
  · have hword : (0x2000 + k) / 4 * 4 - 0x2000 + k % 4 = k := by omega
    rw [memRead_rxWindow hp (by omega) (by omega), rxBufWord_octet _ (Nat.mod_lt k (by decide)), haddr, hword,
      rxBufOctet, hq]
  · have hlen : e.payload.length ≤ k := (h.queues.rxq_payload e (by simp [hq])).trans (by omega)
    rw [memRead_unmapped hp (by omega) (.inr (by omega)), List.getD_eq_default _ _ hlen, BitVec.ofNat_eq_ofNat,
      BitVec.extractLsb'_zero]
    rfl

end ReceiveWindow

/-- Settles O44: the counts fit in their octets, and the head's registers and window read its entry. -/
theorem receiveWindowShowsHead : Obligations.ReceiveWindowShowsHead := by
  intro s h
  have hp := h.config.params_wf
  have hdepth := depth_range hp
  have htxq := h.queues.txq_le
  have hrxq := h.queues.rxq_le
  obtain ⟨htxCount, hrxCount, hreserved⟩ := queueStateWord_fields s
  simp only [memRead_queueState, memRead_rxHead0, memRead_rxHead1]
  refine ⟨?_, ?_, hreserved, fun hq => ?_, fun e rest hq => ?_⟩
  · rw [htxCount, BitVec.toNat_ofNat, Nat.mod_eq_of_lt (by omega)]
  · rw [hrxCount, BitVec.toNat_ofNat, Nat.mod_eq_of_lt (by omega)]
  · obtain ⟨hhead0, hhead1⟩ := rxHeadWords_of_nil hq
    exact ⟨hhead0, hhead1, fun addr => memRead_rxRegion_of_nil hp hq⟩
  · obtain ⟨hlen, hkind, hres0, hvalid⟩ := rxHead0Word_of_cons hq
    obtain ⟨hseq, hcredit, hres1⟩ := rxHead1Word_of_cons hq
    refine ⟨?_, hkind, hres0, hvalid, hseq, hcredit, hres1, fun k => memRead_rxRegion_octet h hq⟩
    have hfits := h.queues.rxq_payload e (by simp [hq])
    have := maxpkt_range hp
    rw [hlen, BitVec.toNat_ofNat, Nat.mod_eq_of_lt (by omega)]

section ResetReads

variable {p : Params}

/-- STATUS after reset: TX_IDLE, and the level of `send_allowed` (R62). -/
theorem statusWord_resetWith (hp : p.wf = true) (b : Bool) :
    statusWord { State.resetWith p with sendAllowed := b } = if b then 0x00000022 else 0x00000002 := by
  obtain ⟨⟨htx, -⟩, hrx, -⟩ := depth_range hp
  have htxq : txqFull { State.resetWith p with sendAllowed := b } = false := by
    simpa [txqFull, State.resetWith] using (Nat.ne_of_gt htx).symm
  have hrxq : rxqFull { State.resetWith p with sendAllowed := b } = false := by
    simpa [rxqFull, State.resetWith] using (Nat.ne_of_gt hrx).symm
  rw [statusWord, htxq, hrxq]
  show (0#8 ++ 0#9 ++ 0#3 ++ 0#1 ++ 0#3 ++ 0#1 ++ 0#1 ++ BitVec.ofBool b ++ 0#1 ++ 0#1 ++ 0#1 ++ 1#1 ++ 0#1 : Word) =
    if b then 0x00000022 else 0x00000002
  cases b <;> decide

theorem stateWords_resetWith (p : Params) :
    seqStateWord (State.resetWith p) = 0 ∧ ackStateWord (State.resetWith p) = 0 ∧
    arbStateWord (State.resetWith p) = 0 ∧ queueStateWord (State.resetWith p) = 0 := by
  simp [seqStateWord, ackStateWord, arbStateWord, queueStateWord, State.resetWith, pendingKindCode, ArbState.code]

/-- From TX_LEN on, every register resets to 0. -/
theorem readRegister_resetWith {off : Nat} (h : 0x020 ≤ off) : readRegister (State.resetWith p) off = 0 := by
  obtain ⟨hseq, hack, harb, hqueue⟩ := stateWords_resetWith p
  unfold readRegister
  split
  case h_9 => exact hseq
  case h_10 => exact hack
  case h_11 => exact harb
  case h_13 => exact hqueue
  case h_8 | h_12 | h_14 | h_15 | h_16 | h_17 | h_18 | h_19 => rfl
  all_goals omega

theorem memRead_resetWith (hp : p.wf = true) {addr : Offset} (hlo : 0x020 ≤ addr.toNat)
    (hout : addr.toNat < 0x1000 ∨ 0x1000 + p.maxpkt ≤ addr.toNat) : memRead (State.resetWith p) addr = 0 := by
  rcases hout with hreg | hbeyond
  · rw [memRead_register hreg, readRegister_resetWith (by omega)]
  · by_cases hrx : addr.toNat < 0x2000
    · exact memRead_unmapped (s := State.resetWith p) hp hbeyond (.inl hrx)
    · exact memRead_rxRegion_of_nil (s := State.resetWith p) hp rfl (by omega)

theorem irqLevel_resetWith (p : Params) : irqLevel (State.resetWith p) = false := by
  simp [irqLevel, State.resetWith]

end ResetReads

/-- Settles O50, by the table of R62. -/
theorem resetRegisterValues : Obligations.ResetRegisterValues := by
  intro p hp
  refine ⟨memRead_id, fun b => ?_, memRead_irqStatus, memRead_irqEnable, memRead_cfgTimeout, memRead_cfgRetry,
    memRead_cfgMaxinfo, fun addr => memRead_resetWith hp, irqLevel_resetWith p, rfl, rfl, rfl, rfl, rfl, rfl,
    rfl, rfl, rfl, rfl, rfl, rfl, rfl⟩
  rw [memRead_status, statusWord_resetWith hp]

end Sys2Proof.Machine

namespace Sys2Proof.Machine

/-! ## What a step leaves of IRQ_STATUS, RXQ, the sequence counters and ACK_MATCH

One walk over the model serves O55 to O58: each event is given what it may write of these elements beyond what every step
may (`eventWrites`), and each meaning is shown to keep the rest (`Keeps`). -/

/-- What may be written beyond what every step may: interrupt bits cleared, RXQ entries removed, TX_SEQ, RX_LAST. -/
structure Writes where
  irqCleared : Octet := 0
  rxq : Bool := false
  txSeq : Bool := false
  rxLast : Bool := false

/-- The next state keeps what `w` does not allow to be written. ACK_MATCH is kept or the pending packet is done; the pop of
an idle ARB, which has no ACK_MATCH to withdraw, is left out (10_state.md R48). -/
structure Keeps (w : Writes) (s t : State) : Prop where
  irq : ∀ i, w.irqCleared.getLsbD i = false → s.irqStatus.getLsbD i = true → t.irqStatus.getLsbD i = true
  rxq : w.rxq = false → t.rxq = s.rxq ∨ ∃ x, t.rxq = s.rxq ++ [x]
  txSeq : w.txSeq = false → t.txSeq = s.txSeq
  rxLast : w.rxLast = false → t.rxLast = s.rxLast
  ackMatch : s.stArb ≠ .idle → s.ackMatch = true → t.ackMatch = true ∨ t.pendingValid = false

/-- What an instruction may write. RXD's packets may all set RX_LAST; none removes from RXQ. -/
def instrWrites : Instr → Writes
  | .sendLr | .sendLt => { txSeq := true }
  | .openLink => { rxq := true, txSeq := true, rxLast := true }
  | .rxRelease => { rxq := true }
  | .rxLr _ _ | .rxLd _ _ | .rxLt _ _ _ | .rxLa _ _ _ _ => { rxLast := true }
  | .nop | .sendLd | .sendLa _ _ _ | .closeLink | .clrCounters => {}

/-- What a write of the word `v` to CMD may write. -/
def commandWrites (v : Word) : Writes :=
  match decodeCmd v with
  | .ok i => instrWrites i
  | .error _ => {}

theorem commandWrites_of_ok {v : Word} {i : Instr} (hd : decodeCmd v = .ok i) : commandWrites v = instrWrites i := by
  rw [commandWrites, hd]

/-- What a host access may write: CMD runs a command, IRQ_STATUS clears the bits written 1 (R27). -/
def accessWrites : Access → Writes
  | .read _ => {}
  | .write addr v =>
    if addr.toNat / 4 = 1 then commandWrites v
    else if addr.toNat / 4 = 3 then { irqCleared := v.extractLsb' 0 8 }
    else {}

theorem accessWrites_of_cmd {addr : Offset} {v : Word} (h : addr.toNat / 4 = 1) :
    accessWrites (.write addr v) = commandWrites v := if_pos h

theorem accessWrites_of_irqStatus {addr : Offset} {v : Word} (h : addr.toNat / 4 = 3) :
    accessWrites (.write addr v) = { irqCleared := v.extractLsb' 0 8 } :=
  (if_neg (by omega)).trans (if_pos h)

theorem accessWrites_of_other {addr : Offset} {v : Word} (h1 : addr.toNat / 4 ≠ 1) (h3 : addr.toNat / 4 ≠ 3) :
    accessWrites (.write addr v) = {} :=
  (if_neg h1).trans (if_neg h3)

/-- What an event other than `rst` may write. -/
def eventWrites (e : Event) : Writes :=
  match e with
  | .host a => accessWrites a
  | .rxd => { rxLast := true }
  | _ => {}

section Keeps

variable {w : Writes} {s s' t t' : State}

/-- The elements are those of the state before, but for the ones that `w` allows to be written. -/
theorem Keeps.of_same (hi : t.irqStatus = s.irqStatus := by rfl) (hq : w.rxq = false → t.rxq = s.rxq := by intro _; rfl)
    (hs : w.txSeq = false → t.txSeq = s.txSeq := by intro _; rfl)
    (hl : w.rxLast = false → t.rxLast = s.rxLast := by intro _; rfl)
    (ha : t.ackMatch = s.ackMatch := by rfl) : Keeps w s t where
  irq i _ h := by rw [hi]; exact h
  rxq h := .inl (hq h)
  txSeq := hs
  rxLast := hl
  ackMatch _ h := .inl (ha.trans h)

/-- The elements that `Keeps` reads of the state after. -/
def State.watched (s : State) : Octet × List RxEntry × Octet × Octet × Bool × Bool :=
  (s.irqStatus, s.rxq, s.txSeq, s.rxLast, s.ackMatch, s.pendingValid)

/-- Nothing else of the two states matters. -/
theorem Keeps.congr (h : Keeps w s t) (hs : s'.watched = s.watched := by rfl) (ha : s'.stArb = s.stArb := by rfl)
    (ht : t'.watched = t.watched := by rfl) : Keeps w s' t' := by
  simp only [State.watched, Prod.mk.injEq] at hs ht
  obtain ⟨hsi, hsq, hss, hsl, hsa, -⟩ := hs
  obtain ⟨hti, htq, hts, htl, hta, htv⟩ := ht
  constructor
  · rw [hsi, hti]; exact h.irq
  · rw [hsq, htq]; exact h.rxq
  · rw [hss, hts]; exact h.txSeq
  · rw [hsl, htl]; exact h.rxLast
  · rw [ha, hsa, hta, htv]; exact h.ackMatch

/-- Setting an interrupt bit withdraws nothing (R27). -/
theorem Keeps.irqSet (b : IrqBit) (h : Keeps w s t) : Keeps w s (irqSet b t) where
  irq i hw hi := by simp [h.irq i hw hi]
  rxq := h.rxq
  txSeq := h.txSeq
  rxLast := h.rxLast
  ackMatch := h.ackMatch

/-- Dropping the pending record ends ACK_MATCH's promise (10_state.md R48). -/
theorem Keeps.of_nothingPending (h : Keeps w s t) (hi : t'.irqStatus = t.irqStatus := by rfl)
    (hq : t'.rxq = t.rxq := by rfl) (hs : t'.txSeq = t.txSeq := by rfl) (hl : t'.rxLast = t.rxLast := by rfl)
    (hv : t'.pendingValid = false := by rfl) : Keeps w s t' where
  irq := by rw [hi]; exact h.irq
  rxq := by rw [hq]; exact h.rxq
  txSeq := by rw [hs]; exact h.txSeq
  rxLast := by rw [hl]; exact h.rxLast
  ackMatch _ _ := .inr hv

/-- A packet delivered grows RXQ at its tail (10_state.md R44). -/
theorem deliver_keeps (k : RxKind) (q c : Octet) (p : List Octet) (hi : t.irqStatus = s.irqStatus := by rfl)
    (hq : t.rxq = s.rxq := by rfl) (hs : t.txSeq = s.txSeq := by rfl)
    (hl : w.rxLast = false → t.rxLast = s.rxLast := by intro _; rfl)
    (ha : s.ackMatch = true → t.ackMatch = true := by exact id) : Keeps w s (deliver k q c p t) where
  irq i _ h := by simp [hi, h]
  rxq _ := .inr ⟨⟨k, q, c, p⟩, by simp [deliver, hq]⟩
  txSeq _ := hs
  rxLast := hl
  ackMatch _ h := .inl (ha h)

theorem withRxRoom_keeps (hfull : Keeps w s' s) (ht : Keeps w s' t) : Keeps w s' (withRxRoom s t) := by
  by_cases hroom : s.rxq.length = s.params.rxqDepth
  · rw [withRxRoom_full hroom]; exact hfull.congr
  · rw [withRxRoom_room hroom]; exact ht

/-- A close sets interrupt bits, keeps RXQ and leaves nothing pending (R285). -/
theorem closeLinkWith_keeps (c : CloseCause) (s : State) : Keeps w s (closeLinkWith c s) := by
  cases hopen : s.linkOpen
  case false => rw [closeLinkWith_closed hopen]; exact .of_same
  case true =>
    rw [closeLinkWith_open hopen, closeOpenLink_eq]
    exact { irq := fun i _ h => by simp [h], rxq := fun _ => .inl rfl, txSeq := fun _ => rfl, rxLast := fun _ => rfl,
            ackMatch := fun _ _ => .inr rfl }

/-! ## Commands and packets -/

theorem runCommand_keeps (check : CmdErr) (h : Keeps w s t) : Keeps w s (runCommand check t s) := by
  rcases runCommand_cases check t s with ⟨-, heq⟩ | ⟨-, heq⟩ <;> rw [heq]
  · exact h.congr
  · exact .irqSet _ .of_same

theorem openSession_keeps (s : State) : Keeps (instrWrites .openLink) s (openSession s) := by
  rw [openSession_eq]
  exact { irq := fun _ _ h => h, rxq := nofun, txSeq := nofun, rxLast := nofun, ackMatch := fun _ _ => .inr rfl }

theorem seqFilter_keeps (q : Octet) (p : List Octet) (s : State) (hw : w.rxLast = true) :
    Keeps w s (seqFilter q p s) := by
  unfold seqFilter
  split
  · exact deliver_keeps .lt q 0 p (hl := by simp [hw])
  · exact .of_same

/-- An acknowledgement never withdraws ACK_MATCH (R251). -/
theorem ackMatch_laReceive (q c : Octet) (h : s.ackMatch = true) : (laReceive q c s).ackMatch = true := by
  simp [laReceive, h]

theorem laReceive_keeps (q c : Octet) (s : State) : Keeps w s (laReceive q c s) where
  irq _ _ h := h
  rxq _ := .inl rfl
  txSeq _ := rfl
  rxLast _ := rfl
  ackMatch _ h := .inl (ackMatch_laReceive q c h)

theorem exec_keeps {i : Instr} (he : exec i s = .next t) : Keeps (instrWrites i) s t := by
  cases i <;> cases he
  case nop => exact .of_same
  case sendLr => exact runCommand_keeps _ (.of_same (hs := nofun))
  case sendLd => exact runCommand_keeps _ .of_same
  case sendLt => exact runCommand_keeps _ (.of_same (hs := nofun))
  case sendLa => exact runCommand_keeps _ .of_same
  case closeLink => exact (closeLinkWith_keeps .host s).congr
  case openLink => exact runCommand_keeps _ (openSession_keeps s)
  case rxRelease => exact runCommand_keeps _ (.of_same (hq := nofun))
  case clrCounters => exact .of_same
  case rxLr => exact withRxRoom_keeps .of_same (deliver_keeps _ _ _ _ (hl := nofun))
  case rxLd => exact withRxRoom_keeps .of_same (deliver_keeps _ _ _ _)
  case rxLt => exact withRxRoom_keeps .of_same (seqFilter_keeps _ _ s rfl)
  case rxLa =>
    exact withRxRoom_keeps (laReceive_keeps _ _ s) (deliver_keeps _ _ _ _ (ha := ackMatch_laReceive _ _))

/-! ## The host bus -/

theorem cmdWrite_keeps {v : Word} (he : cmdWrite v s = .next t) : Keeps (commandWrites v) s t := by
  unfold cmdWrite at he
  split at he
  case h_1 i hd => rw [commandWrites_of_ok hd]; exact exec_keeps he
  case h_2 r hd =>
    cases he
    cases r <;> exact .irqSet _ .of_same

/-- A write of IRQ_STATUS clears the bits written 1 and no other (R27). -/
theorem irqClear_keeps (v : Octet) (s : State) (hw : w.irqCleared = v) : Keeps w s (irqClear v s) where
  irq i hc h := by
    rw [hw] at hc
    simp only [irqClear, BitVec.getLsbD_and, BitVec.getLsbD_not, h, hc, BitVec.lt_of_getLsbD h]
    rfl
  rxq _ := .inl rfl
  txSeq _ := rfl
  rxLast _ := rfl
  ackMatch _ h := .inl h

theorem writeWord_keeps (off : Nat) (v : Word) (s : State)
    (hw : off = 0x00C → w.irqCleared = v.extractLsb' 0 8) : Keeps w s (writeWord off v s) := by
  unfold writeWord
  split
  · obtain ⟨m, heq, -⟩ := writeTxBufWord_spec (off - txBufBase) v s
    rw [heq]
    exact .of_same
  · unfold writeRegister
    split
    case h_1 => exact irqClear_keeps _ s (hw rfl)
    all_goals exact .of_same

theorem hostAccess_keeps {a : Access} (he : hostAccess a s = .next t) : Keeps (accessWrites a) s t := by
  cases a with
  | read addr => cases he; exact .of_same
  | write addr v =>
    simp only [hostAccess, memWrite, wordOffset_eq] at he
    split at he
    case isTrue hcmd =>
      rw [accessWrites_of_cmd (by omega)]
      exact cmdWrite_keeps he
    case isFalse hcmd =>
      cases he
      exact writeWord_keeps _ v s fun hirq => by rw [accessWrites_of_irqStatus (by omega)]

/-! ## RXD -/

/-- A received packet writes RX_LAST at most. -/
theorem instrWrites_of_packet {i : Instr} {p : List Octet} (h : encode i = .pkt p) :
    instrWrites i = { rxLast := true } := by
  cases i with
  | rxLr | rxLd | rxLt | rxLa => rfl
  | nop | sendLr | sendLd | sendLt | sendLa | closeLink | openLink | rxRelease | clrCounters => cases h

theorem frameGood_keeps {p : List Octet} (he : frameGood p s = .next t) : Keeps { rxLast := true } s t := by
  unfold frameGood at he
  split at he
  case h_1 i hd =>
    rw [← instrWrites_of_packet (encode_of_decodePacket hd)]
    exact exec_keeps he
  case h_2 =>
    cases he
    exact withRxRoom_keeps .of_same (deliver_keeps _ _ _ _)

theorem rxdAppend_keeps (o : Octet) (s : State) : Keeps w s (rxdAppend o s) := by
  unfold rxdAppend
  split <;> exact .of_same

theorem rxdOctet_keeps {o : Octet} (he : rxdOctet o s = .next t) : Keeps { rxLast := true } s t := by
  rcases rxdOctet_cases he with ⟨-, rfl⟩ | ⟨-, rfl⟩ | ⟨-, rfl⟩ | ⟨-, rfl⟩ | ⟨-, rfl⟩ | ⟨-, rfl⟩ |
    ⟨-, -, u, hu, rfl⟩ | ⟨-, -, rfl⟩
  · exact .of_same
  · exact .of_same
  · unfold rxdHunt2
    split <;> exact .of_same
  · unfold rxdData
    split
    · exact .of_same
    · exact rxdAppend_keeps o s
  · unfold rxdEsc
    split
    · exact rxdAppend_keeps dle s
    · split <;> exact .of_same
  · exact .of_same
  · exact (frameGood_keeps hu).congr
  · exact .of_same

theorem rxdStep_keeps (he : rxdStep s = .next t) : Keeps { rxLast := true } s t := by
  rcases rxdStep_cases he with rfl | ⟨x, rest, -, -, hx⟩
  · exact .of_same
  · cases x with
    | octet o => exact (rxdOctet_keeps hx).congr
    | eos =>
      cases hx
      exact (closeLinkWith_keeps .eos { rxdIdle { s with rxIn := rest } with eosSeen := true }).congr

/-! ## TXF, ARB and TMR -/

theorem txfStep_keeps (he : txfStep s = .next t) : Keeps w s t := by
  rcases txfStep_cases he with rfl | ⟨o, -, -, -, rfl⟩
  · exact .of_same
  · unfold txfEmit
    split <;> exact .of_same

theorem frameSent_keeps (s : State) : Keeps w s (frameSent s) := by
  have hsent : Keeps w s (irqSet .txSent s) := .irqSet _ .of_same
  unfold frameSent
  dsimp only
  split
  · exact hsent.of_nothingPending
  · split
    · exact hsent.of_nothingPending.irqSet _
    · exact hsent.congr

theorem failedAttempt_keeps (s : State) : Keeps w s (failedAttempt s) := by
  unfold failedAttempt
  split
  · exact closeLinkWith_keeps .timeout s
  · exact .of_same

theorem arbPop_keeps (e : TxEntry) (rest : List TxEntry) (hidle : s.stArb = .idle) : Keeps w s (arbPop e rest s) where
  irq _ _ h := h
  rxq _ := .inl rfl
  txSeq _ := rfl
  rxLast _ := rfl
  ackMatch hbusy := absurd hidle hbusy

theorem arbStep_keeps (s : State) : Keeps w s (arbStep s) := by
  rcases arbStep_cases s with heq | ⟨-, ⟨e, rest, hidle, -, heq⟩ | ⟨-, -, -, -, heq⟩ | ⟨-, -, heq⟩ | ⟨-, -, heq⟩ |
    ⟨-, -, -, heq⟩⟩ <;> rw [heq]
  · exact .of_same
  · exact arbPop_keeps e rest hidle
  · exact .irqSet _ .of_same
  · exact frameSent_keeps s
  · exact .irqSet _ (.of_nothingPending .of_same)
  · exact failedAttempt_keeps s

theorem tmrTick_keeps (s : State) : Keeps w s (tmrTick s) := by
  unfold tmrTick
  split <;> exact .of_same

/-! ## Steps -/

theorem runEvent_keeps {e : Event} (hne : e ≠ .rst) (he : runEvent e s = .next t) : Keeps (eventWrites e) s t := by
  cases e with
  | host a => exact hostAccess_keeps he
  | rxd => exact rxdStep_keeps he
  | txf => exact txfStep_keeps he
  | arb => cases he; exact arbStep_keeps s
  | tick => cases he; exact tmrTick_keeps s
  | offer x => cases he; exact .of_same
  | setTxReady b => cases he; exact .of_same
  | setSendAllowed b => cases he; exact .of_same
  | rst => exact absurd rfl hne

theorem step_keeps {e : Event} {sch : List Event} (hsched : s.schedule = e :: sch) (he : step s = .next t)
    (hne : e ≠ .rst) : Keeps (eventWrites e) s t := by
  simp only [step, hsched] at he
  exact (runEvent_keeps hne he).congr

/-! ## Who may write -/

/-- A word that decodes to a command with no operands is that command's one word (30_encoding.md R124). -/
theorem plainWord_of_decodePlain {v : Word} {i j : Instr} {op : Octet} (hop : (opField v).toNat = op.toNat)
    (hd : decodePlain v i = .ok j) : j = i ∧ plainWord op = v := by
  refine ⟨eq_of_decodePlain hd, BitVec.eq_of_toNat_eq ?_⟩
  have hhigh : v.toNat / 256 = 0 := by
    unfold decodePlain at hd
    split at hd
    case isTrue h => exact (reservedPlain_iff v).1 h
    case isFalse => cases hd
  rw [opField_toNat] at hop
  simp only [plainWord, BitVec.toNat_append, BitVec.toNat_zero, Nat.zero_shiftLeft, Nat.zero_or]
  omega

/-- The words that may write: SEND_LR and SEND_LT, OPEN, RX_RELEASE. -/
theorem commandWrites_cases (v : Word) :
    commandWrites v = {} ∨ ((v = 0x00000001 ∨ v = 0x00000004) ∧ commandWrites v = { txSeq := true }) ∨
    (v = 0x00000009 ∧ commandWrites v = { rxq := true, txSeq := true, rxLast := true }) ∨
    (v = 0x0000000A ∧ commandWrites v = { rxq := true }) := by
  unfold commandWrites
  split
  case h_2 => exact .inl rfl
  case h_1 i hd =>
    unfold decodeCmd at hd
    split at hd
    case h_2 hop =>
      obtain ⟨rfl, hv⟩ := plainWord_of_decodePlain (op := 0x01) hop hd
      exact .inr (.inl ⟨.inl (hv.symm.trans (by decide)), rfl⟩)
    case h_4 hop =>
      obtain ⟨rfl, hv⟩ := plainWord_of_decodePlain (op := 0x04) hop hd
      exact .inr (.inl ⟨.inr (hv.symm.trans (by decide)), rfl⟩)
    case h_7 hop =>
      obtain ⟨rfl, hv⟩ := plainWord_of_decodePlain (op := 0x09) hop hd
      exact .inr (.inr (.inl ⟨hv.symm.trans (by decide), rfl⟩))
    case h_8 hop =>
      obtain ⟨rfl, hv⟩ := plainWord_of_decodePlain (op := 0x0A) hop hd
      exact .inr (.inr (.inr ⟨hv.symm.trans (by decide), rfl⟩))
    case h_5 =>
      unfold decodeSendLa at hd
      split at hd <;> cases hd
      exact .inl rfl
    case h_10 => cases hd
    all_goals
      rw [eq_of_decodePlain hd]
      exact .inl rfl

/-- The events that may write: RXD's turn, and host writes to CMD and to IRQ_STATUS. -/
theorem eventWrites_cases (e : Event) :
    eventWrites e = {} ∨ (e = .rxd ∧ eventWrites e = { rxLast := true }) ∨
    ∃ addr v, e = .host (.write addr v) ∧
      ((addr.toNat / 4 = 1 ∧ eventWrites e = commandWrites v) ∨
       (addr.toNat / 4 = 3 ∧ eventWrites e = { irqCleared := v.extractLsb' 0 8 })) := by
  cases e with
  | host a =>
    cases a with
    | read addr => exact .inl rfl
    | write addr v =>
      by_cases hcmd : addr.toNat / 4 = 1
      · exact .inr (.inr ⟨addr, v, rfl, .inl ⟨hcmd, accessWrites_of_cmd hcmd⟩⟩)
      by_cases hirq : addr.toNat / 4 = 3
      · exact .inr (.inr ⟨addr, v, rfl, .inr ⟨hirq, accessWrites_of_irqStatus hirq⟩⟩)
      · exact .inl (accessWrites_of_other hcmd hirq)
  | rxd => exact .inr (.inl ⟨rfl, rfl⟩)
  | txf | arb | tick | offer | setTxReady | setSendAllowed | rst => exact .inl rfl

/-- A permission other than the interrupt bits' is given only to RXD and to the CMD words that have it,
whichever `field` it is. -/
theorem eventWrites_field_eq_false {e : Event} (field : Writes → Bool) (hnone : ∀ m, field { irqCleared := m } = false)
    (hrxd : e = .rxd → field { rxLast := true } = false)
    (hcmd : ∀ addr v, e = .host (.write addr v) → addr.toNat / 4 = 1 → field (commandWrites v) = false) :
    field (eventWrites e) = false := by
  rcases eventWrites_cases e with heq | ⟨he, heq⟩ | ⟨addr, v, he, ⟨haddr, heq⟩ | ⟨-, heq⟩⟩ <;> rw [heq]
  · exact hnone 0
  · exact hrxd he
  · exact hcmd addr v he haddr
  · exact hnone _

/-- No command clears an interrupt bit. -/
theorem commandWrites_irqCleared (v : Word) : (commandWrites v).irqCleared = 0 := by
  rcases commandWrites_cases v with heq | ⟨-, heq⟩ | ⟨-, heq⟩ | ⟨-, heq⟩ <;> rw [heq]

theorem eventWrites_irqCleared {e : Event} {i : Nat}
    (h : ∀ addr v, e = .host (.write addr v) → addr.toNat / 4 = 3 → v.getLsbD i = false) :
    (eventWrites e).irqCleared.getLsbD i = false := by
  rcases eventWrites_cases e with heq | ⟨-, heq⟩ | ⟨addr, v, he, ⟨-, heq⟩ | ⟨haddr, heq⟩⟩ <;> rw [heq]
  · exact BitVec.getLsbD_zero
  · exact BitVec.getLsbD_zero
  · rw [commandWrites_irqCleared]; exact BitVec.getLsbD_zero
  · simp [BitVec.getLsbD_extractLsb', h addr v he haddr]

theorem commandWrites_rxq {v : Word} (h : v ≠ 0x00000009 ∧ v ≠ 0x0000000A) : (commandWrites v).rxq = false := by
  obtain ⟨hopen, hrelease⟩ := h
  rcases commandWrites_cases v with heq | ⟨-, heq⟩ | ⟨hv, -⟩ | ⟨hv, -⟩
  · rw [heq]
  · rw [heq]
  · exact absurd hv hopen
  · exact absurd hv hrelease

theorem commandWrites_txSeq {v : Word} (h : v ≠ 0x00000001 ∧ v ≠ 0x00000004 ∧ v ≠ 0x00000009) :
    (commandWrites v).txSeq = false := by
  obtain ⟨hlr, hlt, hopen⟩ := h
  rcases commandWrites_cases v with heq | ⟨hv | hv, -⟩ | ⟨hv, -⟩ | ⟨-, heq⟩
  · rw [heq]
  · exact absurd hv hlr
  · exact absurd hv hlt
  · exact absurd hv hopen
  · rw [heq]

theorem commandWrites_rxLast {v : Word} (h : v ≠ 0x00000009) : (commandWrites v).rxLast = false := by
  rcases commandWrites_cases v with heq | ⟨-, heq⟩ | ⟨hv, -⟩ | ⟨-, heq⟩
  · rw [heq]
  · rw [heq]
  · exact absurd hv h
  · rw [heq]

/-- ACK_MATCH is set only while a packet is pending (10_state.md R48). -/
theorem ArbInv.busy_of_ackMatch (h : ArbInv s) (hm : s.ackMatch = true) : s.stArb ≠ .idle := by
  rw [← h.valid_iff]
  cases hv : s.pendingValid
  case true => rfl
  case false =>
    obtain ⟨-, -, -, -, hclear⟩ := h.nothing hv
    cases hm.symm.trans hclear

end Keeps

/-- Settles O55: only a write of IRQ_STATUS clears a bit, and only where it writes 1. -/
theorem interruptBitsAreSticky : Obligations.InterruptBitsAreSticky :=
  fun _ _ _ _ i hsched he hne hzero => (step_keeps hsched he hne).irq i (eventWrites_irqCleared hzero)

/-- Settles O56: RXQ loses entries only by the commands RX_RELEASE and OPEN. -/
theorem receiveQueueOnlyReleasedByHost : Obligations.ReceiveQueueOnlyReleasedByHost := by
  intro s t e sch hsched he hne hwords
  have hkept : (eventWrites e).rxq = false :=
    eventWrites_field_eq_false Writes.rxq (fun _ => rfl) (fun _ => rfl) fun addr v hev haddr =>
      commandWrites_rxq (hwords addr v hev haddr)
  exact (step_keeps hsched he hne).rxq hkept

/-- Settles O57: TX_SEQ is the sending commands' and OPEN's, RX_LAST is RXD's and OPEN's. -/
theorem sequenceCountersHaveFewWriters : Obligations.SequenceCountersHaveFewWriters := by
  intro s t e sch hsched he hne
  have hkeeps := step_keeps hsched he hne
  refine ⟨fun hwords => hkeeps.txSeq ?_, fun hrxd hwords => hkeeps.rxLast ?_⟩
  · exact eventWrites_field_eq_false Writes.txSeq (fun _ => rfl) (fun _ => rfl) fun addr v hev haddr =>
      commandWrites_txSeq (hwords addr v hev haddr)
  · exact eventWrites_field_eq_false Writes.rxLast (fun _ => rfl) (fun hev => absurd hev hrxd) fun addr v hev haddr =>
      commandWrites_rxLast (hwords addr v hev haddr)

/-- Settles O58: with ACK_MATCH set ARB is not idle, so no pop can clear it. -/
theorem ackMatchNeverWithdrawn : Obligations.AckMatchNeverWithdrawn :=
  fun _ _ _ _ hinv hsched he hne hm => (step_keeps hsched he hne).ackMatch (hinv.arb.busy_of_ackMatch hm) hm

end Sys2Proof.Machine

/-! The family of spec/20_memory.md: where each host access goes, what a word written to TX_BUF stores, and that every access
and every step of a machine that satisfies the invariant answers a next state. -/

namespace Sys2Proof.Machine

section HostAccess

variable {s : State}

/-! ## TX_BUF word by word (20_memory.md R73, R86) -/

@[simp] theorem writeTxBufWord_params (k : Nat) (v : Word) (s : State) : (writeTxBufWord k v s).params = s.params := by
  simp [writeTxBufWord]

theorem txBufOctet_writeTxBufWord_same {k : Nat} (hfits : k + 3 < s.params.maxpkt) (v : Word) {i : Nat} (hi : i < 4) :
    txBufOctet (writeTxBufWord k v s) (k + i) = octetOf v i := by
  have hstored : k < s.params.maxpkt ∧ k + 1 < s.params.maxpkt ∧ k + 2 < s.params.maxpkt := by omega
  interval_cases i <;> simp [writeTxBufWord, txBufOctet_storeTxOctet, hstored, hfits]

theorem txBufOctet_writeTxBufWord_of_ne {j k : Nat} (h : j < k ∨ k + 4 ≤ j) (v : Word) :
    txBufOctet (writeTxBufWord k v s) j = txBufOctet s j := by
  have hne : j ≠ k ∧ j ≠ k + 1 ∧ j ≠ k + 2 ∧ j ≠ k + 3 := by omega
  simp [writeTxBufWord, txBufOctet_storeTxOctet, hne]

/-- A word is its four octets. -/
theorem wordOf_octetOf (v : Word) : wordOf (octetOf v 0) (octetOf v 1) (octetOf v 2) (octetOf v 3) = v := by
  show v.extractLsb' 24 8 ++ v.extractLsb' 16 8 ++ v.extractLsb' 8 8 ++ v.extractLsb' 0 8 = v
  rw [BitVec.extractLsb'_append_extractLsb'_eq_extractLsb' (by rfl),
    BitVec.extractLsb'_append_extractLsb'_eq_extractLsb' (by rfl),
    BitVec.extractLsb'_append_extractLsb'_eq_extractLsb' (by rfl)]
  exact BitVec.extractLsb'_eq_self

theorem txBufWord_writeTxBufWord_same {k : Nat} (hfits : k + 3 < s.params.maxpkt) (v : Word) :
    txBufWord (writeTxBufWord k v s) k = v := by
  have hoctet (i : Nat) (hi : i < 4) : txBufOctet (writeTxBufWord k v s) (k + i) = octetOf v i :=
    txBufOctet_writeTxBufWord_same hfits v hi
  have hfirst : txBufOctet (writeTxBufWord k v s) k = octetOf v 0 := hoctet 0 (by decide)
  simp [txBufWord, hfirst, hoctet, wordOf_octetOf]

theorem txBufWord_writeTxBufWord_of_ne {j k : Nat} (h : j + 4 ≤ k ∨ k + 4 ≤ j) (v : Word) :
    txBufWord (writeTxBufWord k v s) j = txBufWord s j := by
  have hkept (i : Nat) (hi : i < j + 4) (hj : j ≤ i) : txBufOctet (writeTxBufWord k v s) i = txBufOctet s i :=
    txBufOctet_writeTxBufWord_of_ne (by omega) v
  simp [txBufWord, hkept]

/-! ## Where an access goes (20_memory.md R70, R72) -/

theorem memRead_txWord {addr : Offset} {k : Nat} (hk : 4 * k < s.params.maxpkt) (haddr : addr.toNat / 4 = 0x400 + k) :
    memRead s addr = txBufWord s (4 * k) := by
  have hoff : (0x400 + k) * 4 = 0x1000 + 4 * k := by omega
  simp [memRead, readWord, wordOffset_eq, inWindow, txBufBase, haddr, hoff, hk]

theorem memWrite_txWord {addr : Offset} {k : Nat} (hk : 4 * k < s.params.maxpkt) (haddr : addr.toNat / 4 = 0x400 + k)
    (v : Word) : memWrite addr v s = .next (writeTxBufWord (4 * k) v s) := by
  have hoff : (0x400 + k) * 4 = 0x1000 + 4 * k := by omega
  have hcmd : 0x1000 + 4 * k ≠ 0x004 := by omega
  simp [memWrite, writeWord, wordOffset_eq, inWindow, txBufBase, haddr, hoff, hcmd, hk]

/-- Off TX_BUF's window a read does not see TX_BUF. -/
theorem memRead_outside_txWindow (hp : s.params.wf = true) {addr : Offset}
    (h : addr.toNat < 0x1000 ∨ 0x1000 + s.params.maxpkt ≤ addr.toNat) (m : List Host.Cell) :
    memRead { s with txBuf := m } addr = memRead s addr := by
  have := maxpkt_aligned hp
  have htx : inWindow txBufBase s.params (wordOffset addr) = false := by
    simp only [inWindow, txBufBase, wordOffset_eq, Bool.and_eq_false_iff, decide_eq_false_iff_not]
    omega
  simp only [memRead, readWord, htx]
  rfl

/-- A word written to TX_BUF leaves every other word of the register space as it reads. -/
theorem memRead_writeTxBufWord_of_ne (hp : s.params.wf = true) {addr : Offset} {k : Nat} (h : addr.toNat / 4 ≠ 0x400 + k)
    (v : Word) : memRead (writeTxBufWord (4 * k) v s) addr = memRead s addr := by
  by_cases hin : 0x1000 ≤ addr.toNat ∧ addr.toNat < 0x1000 + s.params.maxpkt
  · obtain ⟨j, hj⟩ : ∃ j, addr.toNat / 4 = 0x400 + j := ⟨addr.toNat / 4 - 0x400, by omega⟩
    have hfits : 4 * j < s.params.maxpkt := by omega
    have hfits' : 4 * j < (writeTxBufWord (4 * k) v s).params.maxpkt := by rwa [writeTxBufWord_params]
    rw [memRead_txWord hfits' hj, memRead_txWord hfits hj, txBufWord_writeTxBufWord_of_ne (by omega)]
  · obtain ⟨m, hm, -⟩ := writeTxBufWord_spec (4 * k) v s
    rw [hm, memRead_outside_txWindow hp (by omega)]

theorem memRead_writeTxBufWord_same (hp : s.params.wf = true) {addr : Offset} {k : Nat} (hk : 4 * k < s.params.maxpkt)
    (haddr : addr.toNat / 4 = 0x400 + k) (v : Word) : memRead (writeTxBufWord (4 * k) v s) addr = v := by
  have := maxpkt_aligned hp
  have hk' : 4 * k < (writeTxBufWord (4 * k) v s).params.maxpkt := by rwa [writeTxBufWord_params]
  rw [memRead_txWord hk' haddr, txBufWord_writeTxBufWord_same (by omega)]

theorem memWrite_outside_txWindow (hp : s.params.wf = true) {addr : Offset}
    (h : addr.toNat < 0x1000 ∨ 0x1000 + s.params.maxpkt ≤ addr.toNat) (hcmd : addr.toNat / 4 ≠ 1) (v : Word) :
    memWrite addr v s = .next (writeRegister (addr.toNat / 4 * 4) v s) := by
  have := maxpkt_aligned hp
  have htx : ¬ (0x1000 ≤ addr.toNat / 4 * 4 ∧ addr.toNat / 4 * 4 < 0x1000 + s.params.maxpkt) := by omega
  have hoff : addr.toNat / 4 * 4 ≠ 4 := by omega
  simp [memWrite, writeWord, wordOffset_eq, inWindow, txBufBase, htx, hoff]

/-- Below IRQ_STATUS and after TX_LEN no register takes a write but CMD. -/
theorem writeRegister_readOnly {off : Nat} (h : off < 0x00C ∨ 0x024 ≤ off) (v : Word) (s : State) :
    writeRegister off v s = s := by
  unfold writeRegister
  split
  case h_7 => rfl
  all_goals omega

theorem memWrite_readOnly (hp : s.params.wf = true) {addr : Offset}
    (h : addr.toNat < 4 ∨ (0x008 ≤ addr.toNat ∧ addr.toNat < 0x00C) ∨ (0x024 ≤ addr.toNat ∧ addr.toNat < 0x1000) ∨
      0x1000 + s.params.maxpkt ≤ addr.toNat) (v : Word) : memWrite addr v s = .next s := by
  rw [memWrite_outside_txWindow hp (by omega) (by omega), writeRegister_readOnly (by omega)]

/-- CMD reads 0 at each of its four offsets. -/
theorem memRead_cmd {addr : Offset} (h : addr.toNat / 4 = 1) : memRead s addr = 0 := by
  rw [memRead_register (by omega), h]
  rfl

theorem memRead_reserved (hp : s.params.wf = true) {addr : Offset}
    (h : (0x04C ≤ addr.toNat ∧ addr.toNat < 0x1000) ∨ (0x1000 + s.params.maxpkt ≤ addr.toNat ∧ addr.toNat < 0x2000) ∨
      0x2000 + s.params.maxpkt ≤ addr.toNat) : memRead s addr = 0 := by
  rcases h with ⟨hlo, hhi⟩ | hbeyond
  · rw [memRead_register hhi, readRegister_reserved (by omega)]
  · exact memRead_unmapped hp (by omega) (by omega)

/-- An access is a word access: a read at any of a word's four offsets is the read at its first. -/
theorem memRead_word (s : State) (addr : Offset) : memRead s (BitVec.ofNat 14 (addr.toNat / 4 * 4)) = memRead s addr := by
  have := addr.isLt
  have hword : (BitVec.ofNat 14 (addr.toNat / 4 * 4)).toNat = addr.toNat / 4 * 4 := by
    rw [BitVec.toNat_ofNat]
    omega
  simp only [memRead, wordOffset_eq, hword, Nat.mul_div_cancel _ (by decide : 0 < 4)]

end HostAccess

/-- Settles O46: MAXPKT is a multiple of 4, so a word of the window stores all four of its octets. -/
theorem txBufWordReadsBack : Obligations.TxBufWordReadsBack := by
  intro s k addr v hp hk haddr
  have := maxpkt_aligned hp
  have hfits : 4 * k + 3 < s.params.maxpkt := by omega
  obtain ⟨m, hm, -⟩ := writeTxBufWord_spec (4 * k) v s
  refine ⟨m, by rw [memWrite_txWord hk haddr, hm], ?_⟩
  rw [← hm]
  exact ⟨fun i hi => txBufOctet_writeTxBufWord_same hfits v hi,
    fun j hj => txBufOctet_writeTxBufWord_of_ne (by omega) v,
    fun a ha => memRead_writeTxBufWord_same hp hk ha v,
    fun a ha => memRead_writeTxBufWord_of_ne hp ha v⟩

/-- Settles O47: no register takes a write at any of these offsets, and none is read at a reserved one. -/
theorem reservedAndReadOnlyOffsets : Obligations.ReservedAndReadOnlyOffsets := by
  intro s addr v hp
  have := maxpkt_range hp
  exact ⟨fun hreserved => ⟨memRead_reserved hp hreserved, memWrite_readOnly hp (by omega) v⟩,
    fun hcmd => memRead_cmd (by omega), fun hro => memWrite_readOnly hp (by omega) v⟩

section Completion

variable {s : State}

/-! ## Every access and every turn answers a next state (20_memory.md R76, 60_exceptions.md R350, R360) -/

theorem thenNext_next {r : Host.Outcome State Fault Refusal} (f : State → State) (h : ∃ t, r = .next t) :
    ∃ t, thenNext f r = .next t := by
  obtain ⟨t, ht⟩ := h
  exact ⟨f t, thenNext_eq_next.2 ⟨t, ht, rfl⟩⟩

/-- A word that is no command is an error with its own next state (46_host_commands.md R310). -/
theorem cmdWrite_next (w : Word) (s : State) : ∃ t, cmdWrite w s = .next t := by
  unfold cmdWrite
  split
  · exact exec_next _ _
  · exact ⟨_, rfl⟩

theorem hostAccess_next (a : Access) (s : State) : ∃ t, hostAccess a s = .next t := by
  cases a with
  | read addr => exact ⟨_, rfl⟩
  | write addr v =>
    simp only [hostAccess, memWrite]
    split
    · exact cmdWrite_next v s
    · exact ⟨_, rfl⟩

theorem rxdFcs2_next (o : Octet) (s : State) : ∃ t, rxdFcs2 o s = .next t := by
  unfold rxdFcs2
  split
  · exact thenNext_next _ (frameGood_next _ _)
  · exact ⟨_, rfl⟩

theorem rxdOctet_next (o : Octet) (s : State) : ∃ t, rxdOctet o s = .next t := by
  unfold rxdOctet
  split
  case h_7 => exact rxdFcs2_next o s
  all_goals exact ⟨_, rfl⟩

theorem rxdStep_next (s : State) : ∃ t, rxdStep s = .next t := by
  unfold rxdStep
  split
  case isFalse => exact ⟨_, rfl⟩
  case isTrue =>
    split
    case h_1 => exact ⟨_, rfl⟩
    case h_2 x rest _ =>
      cases x with
      | octet o => exact rxdOctet_next o _
      | eos => exact ⟨_, rfl⟩

/-- While TXF is BUSY its index lies in its frame, so it has an octet to send. -/
theorem txfStep_next (h : TxfInv s) : ∃ t, txfStep s = .next t := by
  unfold txfStep
  split
  case isFalse => exact ⟨_, rfl⟩
  case isTrue hturn =>
    obtain ⟨hbusy, -⟩ := Bool.and_eq_true_iff.1 hturn
    obtain ⟨hlt, -, -⟩ := h.busy ((txfBusy_iff s).1 hbusy)
    rw [List.getElem?_eq_getElem hlt]
    exact ⟨_, rfl⟩

theorem runEvent_next (e : Event) (h : TxfInv s) : ∃ t, runEvent e s = .next t := by
  cases e with
  | host a => exact hostAccess_next a s
  | rxd => exact rxdStep_next s
  | txf => exact txfStep_next h
  | arb | tick | offer | setTxReady | setSendAllowed | rst => exact ⟨_, rfl⟩

theorem step_of_schedule_nil (h : s.schedule = []) : step s = .next s := by
  simp only [step, h]

theorem step_of_schedule_cons {e : Event} {sch : List Event} (h : s.schedule = e :: sch) :
    step s = runEvent e { s with schedule := sch } := by
  simp only [step, h]

end Completion

/-- Settles O54: only TXF's turn can fault, and the invariant keeps its index inside its frame. -/
theorem stepAlwaysCompletes : Obligations.StepAlwaysCompletes := by
  intro s h
  cases hsched : s.schedule with
  | nil => exact ⟨s, step_of_schedule_nil hsched⟩
  | cons e sch =>
    rw [step_of_schedule_cons hsched]
    exact runEvent_next e h.txf.congr

/-- Settles O48: the word reached is the one at the rounded offset, and no read sees the schedule. -/
theorem readsHaveNoSideEffects : Obligations.ReadsHaveNoSideEffects := by
  intro s addr sch hsched
  rw [step_of_schedule_cons hsched, memRead_word]
  rfl

end Sys2Proof.Machine

/-! The family of spec/30_encoding.md: the decoder and the encoder are inverse on command words and on payloads, the
legal words are those of the opcode table, every other word is refused as it says, and a frame's fields stand in order. -/

namespace Sys2Proof.Machine

section CommandWords

variable {w : Word}

/-! ## Commands without operands (30_encoding.md R122, R124) -/

/-- The commands without operands, each with its OP. -/
def plainCommands : List (Octet × Instr) :=
  [(0x00, .nop), (0x01, .sendLr), (0x02, .sendLd), (0x04, .sendLt), (0x08, .closeLink), (0x09, .openLink),
    (0x0A, .rxRelease), (0x0B, .clrCounters)]

theorem decodePlain_of_no_reserved (h : w.toNat / 256 = 0) (i : Instr) : decodePlain w i = .ok i :=
  if_pos ((reservedPlain_iff w).2 h)

theorem decodePlain_of_reserved (h : w.toNat / 256 ≠ 0) (i : Instr) : decodePlain w i = .error .reservedBits :=
  if_neg (mt (reservedPlain_iff w).1 h)

@[simp] theorem plainWord_toNat (op : Octet) : (plainWord op).toNat = op.toNat := by
  simp only [plainWord, BitVec.toNat_append, BitVec.toNat_zero, Nat.zero_shiftLeft, Nat.zero_or]

theorem encode_plainCommand : ∀ c ∈ plainCommands, encode c.2 = .cmd (plainWord c.1) := by decide

/-! ## SEND_LA's fields (R120, R121) -/

theorem decodeSendLa_of_no_reserved (h : w.toNat / 2 ^ 25 = 0) :
    decodeSendLa w = .ok (.sendLa (aField w) (bField w) (dField w)) :=
  if_pos ((reservedSendLa_iff w).2 h)

theorem decodeSendLa_of_reserved (h : w.toNat / 2 ^ 25 ≠ 0) : decodeSendLa w = .error .reservedBits :=
  if_neg (mt (reservedSendLa_iff w).1 h)

theorem dField_eq_extract (w : Word) : BitVec.ofBool (dField w) = w.extractLsb' 24 1 := by
  rw [dField, BitVec.getLsbD_eq_extractLsb']
  generalize w.extractLsb' 24 1 = x
  revert x
  decide

/-- A word is its reserved bits, D, B, A and OP side by side. -/
theorem fields_append (w : Word) :
    w.extractLsb' 25 7 ++ BitVec.ofBool (dField w) ++ bField w ++ aField w ++ opField w = w := by
  rw [dField_eq_extract, bField, aField, opField, BitVec.extractLsb'_append_extractLsb'_eq_extractLsb' (by rfl),
    BitVec.extractLsb'_append_extractLsb'_eq_extractLsb' (by rfl),
    BitVec.extractLsb'_append_extractLsb'_eq_extractLsb' (by rfl),
    BitVec.extractLsb'_append_extractLsb'_eq_extractLsb' (by rfl)]
  exact BitVec.extractLsb'_eq_self

/-- A SEND_LA word with no reserved bit set is the word of its operands. -/
theorem sendLaWord_fields (hop : w.toNat % 256 = 0x05) (hres : w.toNat / 2 ^ 25 = 0) :
    sendLaWord (aField w) (bField w) (dField w) = w := by
  have hop' : opField w = 0x05#8 := BitVec.eq_of_toNat_eq ((opField_toNat w).trans hop)
  have hw := fields_append w
  rwa [hop', (reservedSendLa_iff w).2 hres] at hw

@[simp] theorem opField_sendLaWord (a b : Octet) (d : Bool) : opField (sendLaWord a b d) = 0x05#8 :=
  BitVec.extractLsb'_append_eq_right

@[simp] theorem aField_sendLaWord (a b : Octet) (d : Bool) : aField (sendLaWord a b d) = a := by
  rw [aField, sendLaWord, BitVec.extractLsb'_append_eq_of_le (by decide)]
  exact BitVec.extractLsb'_append_eq_right

@[simp] theorem bField_sendLaWord (a b : Octet) (d : Bool) : bField (sendLaWord a b d) = b := by
  rw [bField, sendLaWord, BitVec.extractLsb'_append_eq_of_le (by decide),
    BitVec.extractLsb'_append_eq_of_le (by decide)]
  exact BitVec.extractLsb'_append_eq_right

@[simp] theorem dField_sendLaWord (a b : Octet) (d : Bool) : dField (sendLaWord a b d) = d := by
  simp only [dField, sendLaWord, BitVec.getLsbD_append]
  simp

@[simp] theorem reserved_sendLaWord (a b : Octet) (d : Bool) : (sendLaWord a b d).extractLsb' 25 7 = 0#7 := by
  rw [sendLaWord, BitVec.extractLsb'_append_eq_of_le (by decide), BitVec.extractLsb'_append_eq_of_le (by decide),
    BitVec.extractLsb'_append_eq_of_le (by decide)]
  exact BitVec.extractLsb'_append_eq_left

/-- The match and mask of SEND_LA's row: OP is 0x05 and no reserved bit is set. -/
theorem sendLa_mask_iff : w &&& 0xFE0000FF#32 = 0x00000005#32 ↔ w.toNat % 256 = 0x05 ∧ w.toNat / 2 ^ 25 = 0 := by
  constructor
  · intro h
    have hop : opField w = 0x05#8 := by
      have hlow := congrArg opField h
      rwa [opField, BitVec.extractLsb'_and, show (0xFE0000FF#32).extractLsb' 0 8 = BitVec.allOnes 8 by decide,
        BitVec.and_allOnes] at hlow
    have hres : w.extractLsb' 25 7 = 0#7 := by
      have hhigh := congrArg (BitVec.extractLsb' 25 7) h
      rwa [BitVec.extractLsb'_and, show (0xFE0000FF#32).extractLsb' 25 7 = BitVec.allOnes 7 by decide,
        BitVec.and_allOnes] at hhigh
    exact ⟨by rw [← opField_toNat, hop]; rfl, (reservedSendLa_iff w).1 hres⟩
  · rintro ⟨hop, hres⟩
    rw [← sendLaWord_fields hop hres]
    exact BitVec.eq_of_toNat_eq (Laws.RowMatch.sendLa (aField w) (bField w) (dField w) rfl)

/-! ## The command decoder by OP (R122 to R125) -/

theorem decodeCmd_plain {c : Octet × Instr} (hc : c ∈ plainCommands) (hop : w.toNat % 256 = c.1.toNat) :
    decodeCmd w = decodePlain w c.2 := by
  rw [decodeCmd, opField_toNat, hop]
  simp only [plainCommands, List.mem_cons, List.not_mem_nil, or_false] at hc
  rcases hc with rfl | rfl | rfl | rfl | rfl | rfl | rfl | rfl <;> rfl

theorem decodeCmd_sendLa (hop : w.toNat % 256 = 0x05) : decodeCmd w = decodeSendLa w := by
  rw [decodeCmd, opField_toNat, hop]
  rfl

theorem decodeCmd_illegal (hop : w.toNat % 256 ∉ [0x00, 0x01, 0x02, 0x04, 0x05, 0x08, 0x09, 0x0A, 0x0B]) :
    decodeCmd w = .error .illegalOpcode := by
  rw [decodeCmd, opField_toNat]
  split
  case h_10 => rfl
  all_goals
    next h => exact absurd (by rw [h]; decide) hop

/-- An OP of a command without operands names its row. -/
theorem exists_plainCommand {n : Nat} (h : n ∈ [0x00, 0x01, 0x02, 0x04, 0x08, 0x09, 0x0A, 0x0B]) :
    ∃ c ∈ plainCommands, n = c.1.toNat := by
  obtain ⟨c, hc, rfl⟩ := List.mem_map.1 (show n ∈ plainCommands.map (fun c => c.1.toNat) from h)
  exact ⟨c, hc, rfl⟩

/-- A word that decodes is a plain command's one word, or SEND_LA with no reserved bit set. -/
theorem decodeCmd_ok_cases {i : Instr} (hd : decodeCmd w = .ok i) :
    (∃ c ∈ plainCommands, i = c.2 ∧ plainWord c.1 = w) ∨
    (w.toNat % 256 = 0x05 ∧ w.toNat / 2 ^ 25 = 0 ∧ i = .sendLa (aField w) (bField w) (dField w)) := by
  by_cases hla : w.toNat % 256 = 0x05
  · refine .inr ⟨hla, ?_⟩
    rw [decodeCmd_sendLa hla] at hd
    by_cases hres : w.toNat / 2 ^ 25 = 0
    · rw [decodeSendLa_of_no_reserved hres] at hd
      cases hd
      exact ⟨hres, rfl⟩
    · rw [decodeSendLa_of_reserved hres] at hd
      cases hd
  by_cases hplain : w.toNat % 256 ∈ [0x00, 0x01, 0x02, 0x04, 0x08, 0x09, 0x0A, 0x0B]
  · obtain ⟨c, hc, hop⟩ := exists_plainCommand hplain
    rw [decodeCmd_plain hc hop] at hd
    exact .inl ⟨c, hc, plainWord_of_decodePlain ((opField_toNat w).trans hop) hd⟩
  · rw [decodeCmd_illegal (by simp_all)] at hd
    cases hd

theorem decodeCmd_plainWord {c : Octet × Instr} (hc : c ∈ plainCommands) : decodeCmd (plainWord c.1) = .ok c.2 := by
  have hop : (plainWord c.1).toNat % 256 = c.1.toNat := by simp [Nat.mod_eq_of_lt c.1.isLt]
  have hres : (plainWord c.1).toNat / 256 = 0 := by simp [Nat.div_eq_of_lt c.1.isLt]
  rw [decodeCmd_plain hc hop, decodePlain_of_no_reserved hres]

theorem decode_encode_plain {i : Instr} (h : i ∈ plainCommands.map (fun c => c.2)) : decode (encode i) = .ok i := by
  obtain ⟨c, hc, rfl⟩ := List.mem_map.1 h
  rw [encode_plainCommand c hc]
  exact decodeCmd_plainWord hc

theorem decodeCmd_sendLaWord (a b : Octet) (d : Bool) : decodeCmd (sendLaWord a b d) = .ok (.sendLa a b d) := by
  have hop : (sendLaWord a b d).toNat % 256 = 0x05 := by simp [← opField_toNat]
  simp [decodeCmd_sendLa hop, decodeSendLa]

/-- The encoded form of what a word decodes to is the word. -/
theorem encode_eq_of_decodeCmd {i : Instr} (hd : decodeCmd w = .ok i) : encode i = .cmd w := by
  rcases decodeCmd_ok_cases hd with ⟨c, hc, rfl, rfl⟩ | ⟨hop, hres, rfl⟩
  · exact encode_plainCommand c hc
  · rw [encode, sendLaWord_fields hop hres]

/-- A word that is no command only has its code recorded (46_host_commands.md R310, R311). -/
theorem cmdWrite_of_error {e : Reject} (hd : decodeCmd w = .error e) (s : State) :
    cmdWrite w s = .next (refusedState (rejectCode e) s) := by
  rw [cmdWrite, hd]
  cases e <;> rfl

end CommandWords

section Payloads

/-! ## Payloads (R108 to R112) -/

theorem len_wf_of_packetWf {len : LenField} {body : List Octet} (h : packetWf len body = true) : len.wf = true := by
  obtain ⟨hlen, -⟩ := Bool.and_eq_true_iff.1 h
  exact hlen

/-- Whatever the length field says, a payload is decoded by its type code and the octets after it (R108, R114). -/
theorem decodePacket_packetOctets {len : LenField} (hlen : len.wf = true) (ty : Octet) (body : List Octet) :
    decodePacket (packetOctets len ty body) = decodeBody len ty body := by
  cases len with
  | short l =>
    have hl : l ≠ 0xFF#8 := by simpa [LenField.wf] using hlen
    simp [packetOctets, LenField.octets, decodePacket, decodeAfterLen, hl]
  | extended n => simp [packetOctets, LenField.octets, decodePacket, decodeAfterLen]

/-! ## Frames (R100 to R105) -/

theorem stuff_eq_flatMap (p : List Octet) : stuff p = p.flatMap stuffOctet := by
  induction p with
  | nil => rfl
  | cons o p ih => rw [stuff, ih, List.flatMap_cons]

/-- Stuffing adds one octet for each DLE. -/
theorem stuff_length (p : List Octet) : (stuff p).length = p.length + p.count dle := by
  induction p with
  | nil => rfl
  | cons o p ih =>
    rw [stuff, List.length_append, ih, stuffOctet]
    split
    case isTrue h => subst h; simp; omega
    case isFalse h => simp [h]; omega

theorem encodeFrame_length (v : CrcVariant) (p : List Octet) :
    (encodeFrame v p).length = 7 + p.length + p.count dle := by
  simp [encodeFrame, trailer, stuff_length]
  omega

end Payloads

/-- Settles O1: each row's code is selected by its OP or type code, and its fields read back. -/
theorem decodeOfEncodeIsIdentity : Obligations.DecodeOfEncodeIsIdentity := by
  intro i hwf
  cases i with
  | nop | sendLr | sendLd | sendLt | closeLink | openLink | rxRelease | clrCounters =>
    exact decode_encode_plain (by decide)
  | sendLa a b d => exact decodeCmd_sendLaWord a b d
  | rxLr | rxLd | rxLt | rxLa => exact decodePacket_packetOctets (len_wf_of_packetWf hwf) _ _

/-- Settles O2: a word that decodes is a plain command's one word or SEND_LA's, and a payload keeps every octet. -/
theorem encodeOfDecodeIsIdentity : Obligations.EncodeOfDecodeIsIdentity := by
  intro c i hd
  cases c with
  | cmd w => exact encode_eq_of_decodeCmd hd
  | pkt p => exact encode_of_decodePacket hd

/-- Settles O3: the eight words are those of `plainCommands`, and the mask reads SEND_LA's OP and reserved bits. -/
theorem legalWordsAreTheTableRows : Obligations.LegalWordsAreTheTableRows := by
  intro w
  have hwords : [0x00#32, 0x01#32, 0x02#32, 0x04#32, 0x08#32, 0x09#32, 0x0A#32, 0x0B#32] =
    plainCommands.map (fun c => plainWord c.1) := by decide
  rw [hwords, List.mem_map, sendLa_mask_iff]
  constructor
  · rintro ⟨i, hd⟩
    rcases decodeCmd_ok_cases hd with ⟨c, hc, -, hword⟩ | ⟨hop, hres, -⟩
    · exact .inl ⟨c, hc, hword⟩
    · exact .inr ⟨hop, hres⟩
  · rintro (⟨c, hc, rfl⟩ | ⟨hop, hres⟩)
    · exact ⟨c.2, decodeCmd_plainWord hc⟩
    · exact ⟨_, (decodeCmd_sendLa hop).trans (decodeSendLa_of_no_reserved hres)⟩

/-- Settles O4: the decoder looks at OP first, then at the reserved bits of its form. -/
theorem malformedCommandWordsRefused : Obligations.MalformedCommandWordsRefused := by
  intro w s
  refine ⟨fun hop => cmdWrite_of_error (decodeCmd_illegal hop) s, fun hop hres => ?_, fun hop hres => ?_⟩
  · obtain ⟨c, hc, hop⟩ := exists_plainCommand hop
    exact cmdWrite_of_error ((decodeCmd_plain hc hop).trans (decodePlain_of_reserved hres c.2)) s
  · exact cmdWrite_of_error ((decodeCmd_sendLa hop).trans (decodeSendLa_of_reserved hres)) s

/-- Settles O11: the frame is its fields, and stuffing adds an octet for each DLE; the smallest frame by evaluation. -/
theorem frameLayoutAndLength : Obligations.FrameLayoutAndLength := by
  refine ⟨fun v p => ⟨?_, encodeFrame_length v p⟩, by rfl⟩
  rw [encodeFrame, stuff_eq_flatMap, List.append_assoc _ [dle, etx]]
  rfl

/-- Settles O6: each sample is a closed code, evaluated by the decoder. -/
theorem sampleCodesDecode : Obligations.SampleCodesDecode := by
  refine ⟨?_, ?_, ?_, ?_, ?_, ?_, ?_, ?_, ?_, ?_, ?_⟩ <;> rfl

end Sys2Proof.Machine

/-! The frame check CRC (40_crc16.md). One bit of the CRC is linear over XOR, injective, and a plain shift on a value whose
bit 0 is clear. Eight bits keep each of these as facts about an iterate, and an octet sequence keeps them as facts about a
fold. -/

namespace Sys2Proof.Machine

section FrameCheck

theorem eightTimes_eq_iterate {α : Type} (f : α → α) : eightTimes f = f^[8] := rfl

/-! ## One bit (R142) -/

/-- A bit of the CRC comes from the next higher one, and flips at the polynomial's bits when a 1 is shifted out. -/
theorem getLsbD_arcBit (c : Word16) (i : Nat) :
    (arcBit c).getLsbD i = (c.getLsbD (1 + i) ^^ (c.getLsbD 0 && (0xA001#16).getLsbD i)) := by
  rw [arcBit]
  cases c.getLsbD 0 <;> simp

theorem arcBit_of_even {c : Word16} (h : c.getLsbD 0 = false) : arcBit c = c >>> 1 := by
  rw [arcBit, h]
  rfl

theorem arcBit_xor : Function.Semiconj₂ arcBit (· ^^^ ·) (· ^^^ ·) := by
  intro a b
  refine BitVec.eq_of_getLsbD_eq fun i _ => ?_
  simp only [getLsbD_arcBit, BitVec.getLsbD_xor]
  grind

/-- The bit shifted out is the top bit of the result, so nothing is lost. -/
theorem arcBit_injective : Function.Injective arcBit := by
  intro a b h
  have hbit (i : Nat) := congrArg (fun c => c.getLsbD i) h
  simp only [getLsbD_arcBit] at hbit
  have hlow : a.getLsbD 0 = b.getLsbD 0 := by simpa using hbit 15
  refine BitVec.eq_of_getLsbD_eq fun i _ => ?_
  cases i with
  | zero => exact hlow
  | succ i => simpa only [hlow, Bool.xor_left_inj, Nat.add_comm 1] using hbit i

/-- While only zeros are shifted out, the polynomial never enters. -/
theorem arcBit_iterate_of_low_clear (n : Nat) {c : Word16} (h : ∀ i < n, c.getLsbD i = false) :
    arcBit^[n] c = c >>> n := by
  induction n generalizing c with
  | zero => simp
  | succ n ih =>
    have hshift : ∀ i < n, (c >>> 1).getLsbD i = false := fun i hi => by
      simpa [Nat.add_comm] using h (i + 1) (by omega)
    rw [Function.iterate_succ_apply, arcBit_of_even (h 0 (by omega)), ih hshift, ← BitVec.shiftRight_add,
      Nat.add_comm]

/-! ## One octet (R142, R144) -/

theorem arcUpdate_eq_iterate (c : Word16) (o : Octet) : arcUpdate c o = arcBit^[8] (c ^^^ o.setWidth 16) := by
  rw [arcUpdate, eightTimes_eq_iterate]

/-- The table form: the high octet only moves down, and the low octet meets the input octet before any bit is taken. -/
theorem arcUpdate_eq_table (c : Word16) (o : Octet) :
    arcUpdate c o = (c >>> 8) ^^^ arcUpdate 0 (c.extractLsb' 0 8 ^^^ o) := by
  have hsplit : c ^^^ o.setWidth 16 = (c >>> 8 <<< 8) ^^^ (0 ^^^ (c.extractLsb' 0 8 ^^^ o).setWidth 16) := by
    refine BitVec.eq_of_getLsbD_eq fun i hi16 => ?_
    by_cases hi : i < 8
    · simp [hi, hi16]
    · simp [hi, hi16, Nat.add_sub_cancel' (Nat.le_of_not_lt hi)]
  have hhigh : arcBit^[8] (c >>> 8 <<< 8) = c >>> 8 := by
    rw [arcBit_iterate_of_low_clear 8 fun i hi => by simp [hi]]
    refine BitVec.eq_of_getLsbD_eq fun i hi => ?_
    by_cases h8 : 8 + i < 16
    · simp [h8]
    · simp [h8, BitVec.getLsbD_of_ge c (8 + i) (by omega)]
  rw [arcUpdate_eq_iterate, hsplit, arcBit_xor.iterate 8, hhigh, ← arcUpdate_eq_iterate]

/-- A CRC that takes in its own low octet shifts it out (R148). -/
theorem arcUpdate_low (c : Word16) : arcUpdate c (c.extractLsb' 0 8) = c >>> 8 := by
  rw [arcUpdate_eq_table, BitVec.xor_self]
  exact BitVec.xor_zero

theorem arcUpdate_injective_crc (o : Octet) : Function.Injective (arcUpdate · o) := by
  intro a b h
  simp only [arcUpdate_eq_iterate] at h
  exact (BitVec.xor_left_inj _).1 (arcBit_injective.iterate 8 h)

theorem arcUpdate_injective_octet (c : Word16) : Function.Injective (arcUpdate c) := by
  intro o o' h
  simp only [arcUpdate_eq_iterate] at h
  have hwide := (BitVec.xor_right_inj _).1 (arcBit_injective.iterate 8 h)
  simpa using congrArg (BitVec.setWidth 8) hwide

/-! ## An octet sequence (R143, R145) -/

theorem crc16_arc_eq_foldl (p : List Octet) : crc16 .arc p = p.foldl arcUpdate 0 := rfl

/-- A CRC that takes in its own two octets, low octet first, has shifted out all its bits. -/
theorem foldl_arcUpdate_trailer (c : Word16) : (trailer c).foldl arcUpdate c = 0 := by
  have hhigh : c.extractLsb' 8 8 = (c >>> 8).extractLsb' 0 8 := rfl
  calc (trailer c).foldl arcUpdate c
    _ = arcUpdate (arcUpdate c (c.extractLsb' 0 8)) (c.extractLsb' 8 8) := rfl
    _ = c >>> 8 >>> 8 := by rw [arcUpdate_low, hhigh, arcUpdate_low]
    _ = 0 := by rw [← BitVec.shiftRight_add, BitVec.ushiftRight_eq_zero le_rfl]; rfl

theorem crc16_arc_append_trailer (p : List Octet) : crc16 .arc (p ++ trailer (crc16 .arc p)) = 0 := by
  rw [crc16_arc_eq_foldl, List.foldl_append]
  exact foldl_arcUpdate_trailer (crc16 .arc p)

/-- Different running CRCs stay different whatever follows. -/
theorem foldl_arcUpdate_injective (p : List Octet) : Function.Injective (p.foldl arcUpdate ·) := by
  induction p with
  | nil => exact Function.injective_id
  | cons o p ih => exact ih.comp (arcUpdate_injective_crc o)

/-- Sequences that differ in one octet have different CRCs. -/
theorem crc16_arc_inj_octet (p q : List Octet) {o o' : Octet}
    (h : crc16 .arc (p ++ o :: q) = crc16 .arc (p ++ o' :: q)) : o = o' := by
  simp only [crc16_arc_eq_foldl, List.foldl_append, List.foldl_cons] at h
  exact arcUpdate_injective_octet _ (foldl_arcUpdate_injective q h)

/-- A payload with one octet replaced by another has another frame check value. -/
theorem fcs_arc_set_ne {p : List Octet} {i : Nat} (hi : i < p.length) {o : Octet} (ho : o ≠ p[i]) :
    fcs .arc (p.set i o) ≠ fcs .arc p := by
  intro h
  have hp : p = p.take i ++ p[i] :: p.drop (i + 1) := by simp
  conv at h => rhs; rw [hp]
  rw [List.set_eq_take_append_cons_drop, if_pos hi] at h
  simp only [fcs, List.append_assoc, List.cons_append] at h
  exact ho (crc16_arc_inj_octet _ _ h)

theorem xor_one_shiftLeft_ne (o : Octet) {b : Nat} (hb : b < 8) : o ^^^ (1#8 <<< b) ≠ o := by
  intro h
  have hbit := congrArg (fun x => x.getLsbD b) h
  simp [hb] at hbit

/-! ## The Rocksoft form (R149)

It runs the same CRC with the register's bits in the other order: `BitVec.reverse` carries each of its steps to R142's. -/

/-- `getLsbD_arcBit` with the bits counted from the top. -/
theorem getMsbD_rocksoftBit (poly c : Word16) (i : Nat) :
    (rocksoftBit poly c).getMsbD i = (c.getMsbD (1 + i) ^^ (c.getMsbD 0 && poly.getMsbD i)) := by
  have h0 : c.getLsbD 15 = c.getMsbD 0 := rfl
  rw [rocksoftBit, h0]
  cases c.getMsbD 0 <;> simp [Nat.add_comm]

theorem reverse_rocksoftBit : Function.Semiconj BitVec.reverse (rocksoftBit 0x8005) arcBit := by
  intro c
  have hpoly : (0xA001#16).getLsbD = (0x8005#16).getMsbD := by
    funext i
    rw [← BitVec.getLsbD_reverse]
    rfl
  refine BitVec.eq_of_getLsbD_eq fun i _ => ?_
  rw [BitVec.getLsbD_reverse, getMsbD_rocksoftBit, getLsbD_arcBit, BitVec.getLsbD_reverse, BitVec.getLsbD_reverse,
    hpoly]
  rfl

theorem reverse_rocksoftUpdate (c : Word16) (o : Octet) :
    (rocksoftUpdate 0x8005 true c o).reverse = arcUpdate c.reverse o := by
  have hin : (c ^^^ (o.reverse.setWidth 16 <<< 8)).reverse = c.reverse ^^^ o.setWidth 16 := by
    refine BitVec.eq_of_getLsbD_eq fun i hi => ?_
    simp only [BitVec.getLsbD_reverse, BitVec.getMsbD_xor, BitVec.getLsbD_xor, BitVec.getMsbD_shiftLeft,
      BitVec.getMsbD_setWidth, BitVec.getMsbD_reverse, BitVec.getLsbD_setWidth]
    simp [hi]
  rw [arcUpdate_eq_iterate, ← hin]
  exact reverse_rocksoftBit.iterate_right 8 _

theorem crc16_rocksoft_eq_reverse (p : List Octet) :
    crc16 (.rocksoft 0x8005 0x0000 true true 0x0000) p = (p.foldl (rocksoftUpdate 0x8005 true) 0).reverse :=
  BitVec.xor_zero

end FrameCheck

/-- Settles O7: the general form is the octet step's own law, and the four entries are closed values. -/
theorem crcTableForm : Obligations.CrcTableForm :=
  ⟨arcUpdate_eq_table, by decide, by decide, by decide, by decide⟩

/-- Settles O8: reversing the Rocksoft register after every octet gives the default CRC's register. -/
theorem rocksoftFormEqualsArc : Obligations.RocksoftFormEqualsArc := by
  intro p
  rw [crc16_rocksoft_eq_reverse, crc16_arc_eq_foldl]
  exact (List.foldl_hom BitVec.reverse fun c o => (reverse_rocksoftUpdate c o).symm).symm

/-- Settles O9: the CRC after the ETX takes in its own two octets, which shifts out all its bits. -/
theorem goodFrameResidueIsZero : Obligations.GoodFrameResidueIsZero := by
  intro p
  have h := crc16_arc_append_trailer (p ++ [etx])
  rwa [List.append_assoc] at h

/-- Settles O10: the flipped octet differs from the one it replaces. -/
theorem singleBitFlipChangesFcs : Obligations.SingleBitFlipChangesFcs := by
  intro p i b hi hb
  rw [List.getD_eq_getElem p 0 hi]
  exact fcs_arc_set_ne hi (xor_one_shiftLeft_ne p[i] hb)

end Sys2Proof.Machine

/-! The family of spec/41_frame_encoder.md: the generator's phases, and TXF's turns, emit the frame octet by octet. Both runs
are taken in the parts of the frame, each part giving its octets and leaving the rest of the run. -/

namespace Sys2Proof.Machine

section Generator

variable {v : CrcVariant} {p : List Octet}

/-! ## The generator (R166) -/

/-- A phase that emits contributes its octet, and the run goes on from the phase after it. -/
theorem encRun_succ {c c' : Word16} {ph ph' : EncPhase} {o : Octet} (h : encStep v p c ph = some (o, c', ph')) (n : Nat) :
    encRun v p (n + 1) c ph = o :: encRun v p n c' ph' := by
  simp only [encRun, h]

theorem encRun_idle (n : Nat) (c : Word16) : encRun v p n c .idle = [] := by
  cases n <;> rfl

theorem encRun_start (n : Nat) (c : Word16) :
    encRun v p (n + 3) c .start0 = [syn, dle, stx] ++ encRun v p n (crcStart v) (encBody p) := rfl

/-- BODY and STUFF send one payload octet as `stuffOctet` has it; the CRC takes the octet once. -/
theorem encRun_octet (o : Octet) (q : List Octet) (n : Nat) (c : Word16) :
    encRun v p (n + (stuffOctet o).length) c (encBody (o :: q)) =
      stuffOctet o ++ encRun v p n (crcUpdate v c o) (encBody q) := by
  have hbody : encStep v p c (encBody (o :: q)) =
      some (o, crcUpdate v c o, if o = dle then .stuff q else encBody q) := rfl
  by_cases ho : o = dle
  · simp only [if_pos ho] at hbody
    simp only [stuffOctet, if_pos ho, List.length_cons, List.length_nil]
    rw [encRun_succ hbody, encRun_succ rfl, ho]
    rfl
  · simp only [if_neg ho] at hbody
    simp only [stuffOctet, if_neg ho]
    exact encRun_succ hbody n

theorem encRun_body (q : List Octet) (n : Nat) (c : Word16) :
    encRun v p (n + (stuff q).length) c (encBody q) = stuff q ++ encRun v p n (q.foldl (crcUpdate v) c) .end0 := by
  induction q generalizing c with
  | nil => rfl
  | cons o q ih =>
    rw [stuff, List.length_append, Nat.add_comm (stuffOctet o).length, ← Nat.add_assoc, encRun_octet, ih,
      List.append_assoc, List.foldl_cons]

theorem encRun_end (n : Nat) (c : Word16) :
    encRun v p (n + 4) c .end0 = [dle, etx] ++ trailer (crcFinish v (crcUpdate v c etx)) := by
  rw [encRun_succ rfl, encRun_succ rfl, encRun_succ rfl, encRun_succ rfl, encRun_idle]
  rfl

theorem fcs_eq (v : CrcVariant) (p : List Octet) :
    fcs v p = crcFinish v (crcUpdate v (p.foldl (crcUpdate v) (crcStart v)) etx) := by
  simp [fcs, crc16, crcRunning]

theorem encodeFrame_length_eq_stuff (v : CrcVariant) (p : List Octet) :
    (encodeFrame v p).length = 4 + (stuff p).length + 3 := by
  rw [encodeFrame_length, stuff_length]
  omega

end Generator

section TransmitFramer

variable {s : State} {o : Octet} {rest : List Octet}

/-! ## Runs -/

theorem run_succ_of_step {M : Host.Core} {s t : M.State} (h : M.step s = .next t) (n : Nat) :
    M.run (n + 1) s = M.run n t := by
  rw [Host.Core.run, h]

/-! ## TXF (R162)

`s.txWire.drop s.txIdx` is what TXF still has to send. -/

theorem txfStep_of_unsent (hbusy : s.stTxf = .busy) (hready : s.txReady = true)
    (hunsent : s.txWire.drop s.txIdx = o :: rest) : txfStep s = .next (txfEmit o s) := by
  have hoctet : s.txWire[s.txIdx]? = some o := by rw [← List.head?_drop, hunsent, List.head?_cons]
  simp [txfStep, txfBusy, hbusy, hready, hoctet]

theorem txWire_length_of_unsent (hunsent : s.txWire.drop s.txIdx = o :: rest) :
    s.txWire.length = s.txIdx + 1 + rest.length := by
  have hlen := congrArg List.length hunsent
  rw [List.length_drop, List.length_cons] at hlen
  omega

/-- The last octet leaves TXF IDLE and empty. -/
theorem txfEmit_last (hunsent : s.txWire.drop s.txIdx = [o]) :
    txfEmit o s = txfAbort { s with txOut := s.txOut ++ [o] } :=
  if_pos (txWire_length_of_unsent hunsent).symm

/-- An octet with another behind it only moves the index on. -/
theorem txfEmit_more (hunsent : s.txWire.drop s.txIdx = o :: rest) (hrest : rest ≠ []) :
    txfEmit o s = { s with txOut := s.txOut ++ [o], txIdx := s.txIdx + 1 } := by
  have hlen := txWire_length_of_unsent hunsent
  have hpos := List.length_pos_of_ne_nil hrest
  exact if_neg (by omega)

theorem step_txf {sch : List Event} (hbusy : s.stTxf = .busy) (hready : s.txReady = true)
    (hunsent : s.txWire.drop s.txIdx = o :: rest) (hsched : s.schedule = .txf :: sch) :
    step s = .next (txfEmit o { s with schedule := sch }) :=
  (step_of_schedule_cons hsched).trans (txfStep_of_unsent hbusy hready hunsent)

theorem step_txf_last {sch : List Event} (hbusy : s.stTxf = .busy) (hready : s.txReady = true)
    (hunsent : s.txWire.drop s.txIdx = [o]) (hsched : s.schedule = .txf :: sch) :
    step s = .next { s with
      schedule := sch, txOut := s.txOut ++ [o], stTxf := .idle, txWire := [], txIdx := 0 } :=
  (step_txf hbusy hready hunsent hsched).trans (congrArg _ (txfEmit_last hunsent))

theorem step_txf_more {sch : List Event} (hbusy : s.stTxf = .busy) (hready : s.txReady = true)
    (hunsent : s.txWire.drop s.txIdx = o :: rest) (hrest : rest ≠ []) (hsched : s.schedule = .txf :: sch) :
    step s = .next { s with schedule := sch, txOut := s.txOut ++ [o], txIdx := s.txIdx + 1 } :=
  (step_txf hbusy hready hunsent hsched).trans (congrArg _ (txfEmit_more hunsent hrest))

/-- TXF's turns, one for each octet it still has to send, emit those octets and leave it IDLE. -/
theorem run_txf (w : List Octet) (hne : w ≠ []) (sch : List Event) (hbusy : s.stTxf = .busy) (hready : s.txReady = true)
    (hunsent : s.txWire.drop s.txIdx = w) (hsched : s.schedule = List.replicate w.length .txf ++ sch) :
    Host.Core.run Sys2Proof.core w.length s = .next { s with
      schedule := sch, txOut := s.txOut ++ w, stTxf := .idle, txWire := [], txIdx := 0 } := by
  induction w generalizing s with
  | nil => exact absurd rfl hne
  | cons o rest ih =>
    by_cases hrest : rest = []
    · subst hrest
      exact run_succ_of_step (M := Sys2Proof.core) (step_txf_last hbusy hready hunsent hsched) 0
    · have hturn := step_txf_more hbusy hready hunsent hrest hsched
      have hnext : s.txWire.drop (s.txIdx + 1) = rest := by
        rw [← List.tail_drop, hunsent, List.tail_cons]
      calc Host.Core.run Sys2Proof.core (rest.length + 1) s
        _ = _ := run_succ_of_step (M := Sys2Proof.core) hturn rest.length
        _ = _ := ih hrest hbusy hready hnext rfl
        _ = _ := by rw [List.append_assoc, List.singleton_append]

end TransmitFramer

/-- Settles O12: the generator's fuel is cut into the frame's parts, the start delimiter, the stuffed payload and the end. -/
theorem incrementalGeneratorEqualsEncode : Obligations.IncrementalGeneratorEqualsEncode := by
  intro v p c n hn
  obtain ⟨k, rfl⟩ := Nat.exists_eq_add_of_le' hn
  rw [encodeFrame_length_eq_stuff, ← Nat.add_assoc, ← Nat.add_assoc, encRun_start, encRun_body, encRun_end, ← fcs_eq,
    encodeFrame]
  simp only [List.append_assoc]

/-- Settles O41: at the start of an attempt what TXF has to send is the whole frame. -/
theorem txfEmitsEncodedFrame : Obligations.TxfEmitsEncodedFrame := by
  intro s p sch hready hsched
  have hne : encodeFrame s.params.crcVariant p ≠ [] := List.ne_nil_of_length_pos (encodeFrame_length_pos _ _)
  exact run_txf (s := txfStart p s) _ hne sch rfl hready rfl hsched

end Sys2Proof.Machine

/-! The family of spec/42_frame_decoder.md: RXD's transition for each state and octet, the frames it drops, the end of the
stream, an encoded frame taken back to its payload, and a closed link that takes nothing. -/

namespace Sys2Proof.Machine

section Transitions

variable {s : State} {o : Octet} {rest : List RxInput}

/-! ## RXD's turn by its state (R180 to R191) -/

theorem rxdStep_of_closed (h : s.linkOpen = false) : rxdStep s = .next s := by
  simp [rxdStep, h]

theorem rxdStep_of_input {x : RxInput} (hopen : s.linkOpen = true) (hin : s.rxIn = x :: rest) :
    rxdStep s = rxdTake x { s with rxIn := rest } := by
  simp only [rxdStep, hopen, hin, if_true]

theorem frameError_eq (c : FrameErrorCause) (s : State) : frameError c s = droppedFrameState s := by
  rw [frameError, sat16Inc_eq_countOne]
  rfl

/-- A payload octet in DATA or ESC is taken into the payload, or drops the frame when the payload is full. -/
theorem rxdAppend_eq (o : Octet) (s : State) :
    rxdAppend o s =
      if s.rxAcc.length = s.params.maxpkt then droppedFrameState s
      else { s with rxAcc := s.rxAcc ++ [o], rxCrc := crcUpdate s.params.crcVariant s.rxCrc o, stRxd := .data } := by
  rw [rxdAppend, frameError_eq]

theorem rxdOctet_hunt0 (hs : s.stRxd = .hunt0) (o : Octet) :
    rxdOctet o s = .next { s with stRxd := if o = 0x16#8 then .hunt1 else .hunt0 } := by
  rw [rxdOctet, hs]
  rfl

theorem rxdOctet_hunt1 (hs : s.stRxd = .hunt1) (o : Octet) :
    rxdOctet o s = .next { s with stRxd := if o = 0x10#8 then .hunt2 else .hunt0 } := by
  rw [rxdOctet, hs]
  rfl

theorem rxdOctet_hunt2 (hs : s.stRxd = .hunt2) (o : Octet) :
    rxdOctet o s = .next (
      if o = 0x02#8 then { s with rxAcc := [], rxCrc := crcStart s.params.crcVariant, stRxd := .data }
      else { s with stRxd := .hunt0 }) := by
  rw [rxdOctet, hs]
  rfl

theorem rxdOctet_data (hs : s.stRxd = .data) (o : Octet) :
    rxdOctet o s = .next (
      if o = 0x10#8 then { s with stRxd := .esc }
      else if s.rxAcc.length = s.params.maxpkt then droppedFrameState s
      else { s with rxAcc := s.rxAcc ++ [o], rxCrc := crcUpdate s.params.crcVariant s.rxCrc o, stRxd := .data }) := by
  rw [← rxdAppend_eq, rxdOctet, hs]
  rfl

theorem rxdOctet_esc (hs : s.stRxd = .esc) (o : Octet) :
    rxdOctet o s = .next (
      if o = 0x10#8 then
        if s.rxAcc.length = s.params.maxpkt then droppedFrameState s
        else
          { s with rxAcc := s.rxAcc ++ [0x10#8], rxCrc := crcUpdate s.params.crcVariant s.rxCrc 0x10#8, stRxd := .data }
      else if o = 0x03#8 then { s with rxCrc := crcUpdate s.params.crcVariant s.rxCrc 0x03#8, stRxd := .fcs1 }
      else droppedFrameState s) := by
  rw [← rxdAppend_eq, ← frameError_eq .escape, rxdOctet, hs]
  rfl

theorem rxdOctet_fcs1 (hs : s.stRxd = .fcs1) (o : Octet) :
    rxdOctet o s = .next { s with fcsLo := o, stRxd := .fcs2 } := by
  rw [rxdOctet, hs]
  rfl

theorem rxdOctet_fcs2_good (hs : s.stRxd = .fcs2) (hcrc : crcFinish s.params.crcVariant s.rxCrc = o ++ s.fcsLo) :
    rxdOctet o s = thenNext huntingState (frameGood s.rxAcc s) := by
  have hgood : trailerGood o s = true := beq_iff_eq.2 hcrc
  rw [rxdOctet, hs]
  exact if_pos hgood

theorem rxdOctet_fcs2_bad (hs : s.stRxd = .fcs2) (hcrc : crcFinish s.params.crcVariant s.rxCrc ≠ o ++ s.fcsLo) :
    rxdOctet o s = .next (droppedFrameState s) := by
  have hbad : ¬ trailerGood o s = true := mt beq_iff_eq.1 hcrc
  rw [← frameError_eq .crc, rxdOctet, hs]
  exact if_neg hbad

theorem rxdEos_of_open (h : s.linkOpen = true) :
    rxdEos s = { closedState .eos 0x50 s with eosSeen := true } := by
  rw [rxdEos, closeLinkWith_open (s := { rxdIdle s with eosSeen := true }) h, closeOpenLink_eq]
  rfl

end Transitions

/-- Settles O16, by RXD's state; in FCS2 by the CRC, where `frame_good` always answers a next state. -/
theorem rxdTransitionTable : Obligations.RxdTransitionTable := by
  intro s u o rest hopen hin hu
  have hturn : rxdStep s = rxdOctet o u := hu ▸ rxdStep_of_input hopen hin
  have hstate : u.stRxd = s.stRxd := hu ▸ rfl
  have hfields : u.rxAcc = s.rxAcc ∧ u.rxCrc = s.rxCrc ∧ u.fcsLo = s.fcsLo ∧ u.params = s.params :=
    hu ▸ ⟨rfl, rfl, rfl, rfl⟩
  obtain ⟨hacc, hcrc, hlo, hparams⟩ := hfields
  rw [hturn, ← hacc, ← hcrc, ← hlo, ← hparams]
  cases hs : s.stRxd <;> rw [hs] at hstate
  case hunt0 => exact rxdOctet_hunt0 hstate o
  case hunt1 => exact rxdOctet_hunt1 hstate o
  case hunt2 => exact rxdOctet_hunt2 hstate o
  case data =>
    -- the table leaves `st_RXD` unnamed where DATA keeps it
    have hdata := rxdOctet_data hstate o
    rwa [← hstate] at hdata
  case esc => exact rxdOctet_esc hstate o
  case fcs1 => exact rxdOctet_fcs1 hstate o
  case fcs2 =>
    dsimp only
    split
    case isTrue hgood =>
      obtain ⟨t, ht⟩ := frameGood_next u.rxAcc u
      exact ⟨t, ht, by rw [rxdOctet_fcs2_good hstate hgood, ht]; rfl⟩
    case isFalse hbad => exact rxdOctet_fcs2_bad hstate hbad

/-- Settles O17, by the cause: each is a branch of the transition table in ESC, DATA or FCS2. -/
theorem frameErrorDropsAndCounts : Obligations.FrameErrorDropsAndCounts := by
  intro s o rest hopen hin hcause
  have htable := rxdTransitionTable s _ o rest hopen hin rfl
  rcases hcause with ⟨hs, hdle, hetx⟩ | ⟨hs, hdle, hfull⟩ | ⟨hs, hdle, hfull⟩ | ⟨hs, hbad⟩ <;>
    simp only [hs] at htable
  · rwa [if_neg hdle, if_neg hetx] at htable
  · rwa [if_neg hdle, if_pos hfull] at htable
  · rwa [if_pos hdle, if_pos hfull] at htable
  · rwa [if_neg hbad] at htable

/-- Settles O18: RXD's state plays no part, and the close clears RXD with the rest. -/
theorem endOfStreamClosesLink : Obligations.EndOfStreamClosesLink := by
  intro s rest hopen hin
  have hclose := rxdEos_of_open (s := { s with rxIn := rest }) hopen
  exact (rxdStep_of_input hopen hin).trans (congrArg _ hclose)

section GoodPayload

/-! ## `frame_good` and RXD's own part of the state (R190) -/

theorem rxdIdle_withRxRoom (s t : State) : rxdIdle (withRxRoom s t) = withRxRoom (rxdIdle s) (rxdIdle t) :=
  apply_ite rxdIdle (rxqFull s = true) (rxOverflow s) t

theorem rxdIdle_seqFilter (q : Octet) (p : List Octet) (s : State) :
    rxdIdle (seqFilter q p s) = seqFilter q p (rxdIdle s) :=
  apply_ite rxdIdle (q = seqNext s.rxLast) _ _

/-- A received packet's meaning neither reads nor writes what RXD accumulates. -/
theorem exec_rxdIdle {i : Instr} {p : List Octet} (h : encode i = .pkt p) (s : State) :
    exec i (rxdIdle s) = thenNext rxdIdle (exec i s) := by
  cases i with
  | nop | sendLr | sendLd | sendLt | sendLa | closeLink | openLink | rxRelease | clrCounters => cases h
  | rxLr len body => exact congrArg _ (rxdIdle_withRxRoom s (deliver .lr 0 0 _ (seqResetRx s))).symm
  | rxLd len body => exact congrArg _ (rxdIdle_withRxRoom s (deliver .ld 0 0 _ s)).symm
  | rxLt len q data =>
    have hroom := rxdIdle_withRxRoom s (seqFilter q (packetOctets len 0x04 (q :: data)) s)
    rw [rxdIdle_seqFilter] at hroom
    exact congrArg _ hroom.symm
  | rxLa len q c data =>
    exact congrArg _ (rxdIdle_withRxRoom (laReceive q c s) (deliver .la q c _ (laReceive q c s))).symm

theorem frameGood_rxdIdle (p : List Octet) (s : State) : frameGood p (rxdIdle s) = thenNext rxdIdle (frameGood p s) := by
  unfold frameGood
  split
  case h_1 i hd => exact exec_rxdIdle (encode_of_decodePacket hd) s
  case h_2 => exact congrArg _ (rxdIdle_withRxRoom s (deliver .other 0 0 p s)).symm

end GoodPayload

section FrameReception

/-! ## Taking a frame (R196)

A part of a frame moves RXD's own part of the state and nothing else, whatever is offered after it, so that the parts of
`encode(p)` follow one another by `RxdTakes.trans`. -/

/-- RXD's own part of the state (10_state.md R45). -/
structure RxdPart where
  st : RxdState
  acc : List Octet
  crc : Word16
  lo : Octet

/-- The state with RXD as `r` has it. -/
def RxdPart.put (r : RxdPart) (s : State) : State :=
  { s with stRxd := r.st, rxAcc := r.acc, rxCrc := r.crc, fcsLo := r.lo }

/-- RXD's own part as the state has it. -/
def State.rxdPart (s : State) : RxdPart := ⟨s.stRxd, s.rxAcc, s.rxCrc, s.fcsLo⟩

/-- The state with the octets `w` offered before all other input, and a turn of RXD for each. -/
def beforeTaking (w : List Octet) (s : State) : State :=
  { s with rxIn := w.map .octet ++ s.rxIn, schedule := List.replicate w.length .rxd ++ s.schedule }

/-- On an open link with the parameters `p`, taking the octets `w` moves RXD from `r` to `r'` and changes nothing else. -/
def RxdTakes (p : Params) (w : List Octet) (r r' : RxdPart) : Prop :=
  ∀ s : State, s.linkOpen = true → s.params = p →
    Host.Core.run Sys2Proof.core w.length (beforeTaking w (r.put s)) = .next (r'.put s)

variable {p : Params} {r r' r'' : RxdPart} {w w' : List Octet} {o : Octet} {s : State}

theorem run_add_of_run {M : Host.Core} {m : Nat} {s t : M.State} (h : M.run m s = .next t) (n : Nat) :
    M.run (m + n) s = M.run n t := by
  induction m generalizing s with
  | zero => cases h; rw [Nat.zero_add]
  | succ m ih =>
    rw [Nat.add_right_comm]
    simp only [Host.Core.run] at h ⊢
    split at h
    case h_1 => exact ih h
    case h_2 | h_3 => cases h

theorem run_one (M : Host.Core) (s : M.State) : M.run 1 s = M.step s := by
  rw [Host.Core.run]
  cases M.step s <;> rfl

theorem step_rxd {rest : List RxInput} {sch : List Event} (hopen : s.linkOpen = true) (hin : s.rxIn = .octet o :: rest)
    (hsched : s.schedule = .rxd :: sch) : step s = rxdOctet o { s with rxIn := rest, schedule := sch } :=
  (step_of_schedule_cons hsched).trans (rxdStep_of_input (s := { s with schedule := sch }) hopen hin)

theorem run_beforeTaking_octet (hopen : s.linkOpen = true) :
    Host.Core.run Sys2Proof.core 1 (beforeTaking [o] s) = rxdOctet o s :=
  (run_one Sys2Proof.core _).trans (step_rxd (s := beforeTaking [o] s) hopen rfl rfl)

theorem beforeTaking_append (w w' : List Octet) (s : State) :
    beforeTaking (w ++ w') s = beforeTaking w (beforeTaking w' s) := by
  simp only [beforeTaking, List.map_append, List.length_append, ← List.replicate_append_replicate, List.append_assoc]

/-- A state that offers `w` first, with RXD's turns first, is one before taking `w`. -/
theorem beforeTaking_eq_self {rest : List RxInput} {sch : List Event} (hin : s.rxIn = w.map .octet ++ rest)
    (hsched : s.schedule = List.replicate w.length .rxd ++ sch) :
    beforeTaking w { s with rxIn := rest, schedule := sch } = s := by
  simp only [beforeTaking, ← hin, ← hsched]

/-- What is offered is no part of RXD's own. -/
theorem put_rxdPart_beforeTaking (w : List Octet) (s : State) :
    s.rxdPart.put (beforeTaking w s) = beforeTaking w s := rfl

theorem RxdTakes.trans (h : RxdTakes p w r r') (h' : RxdTakes p w' r' r'') : RxdTakes p (w ++ w') r r'' := by
  intro s hopen hparams
  calc Host.Core.run Sys2Proof.core (w ++ w').length (beforeTaking (w ++ w') (r.put s))
    _ = Host.Core.run Sys2Proof.core (w.length + w'.length) (beforeTaking w (r.put (beforeTaking w' s))) := by
      rw [List.length_append, beforeTaking_append]
      rfl
    _ = Host.Core.run Sys2Proof.core w'.length (beforeTaking w' (r'.put s)) :=
      run_add_of_run (M := Sys2Proof.core) (h (beforeTaking w' s) hopen hparams) w'.length
    _ = .next (r''.put s) := h' s hopen hparams

theorem RxdTakes.nil (r : RxdPart) : RxdTakes p [] r r := fun _ _ _ => rfl

theorem RxdTakes.octet (h : ∀ s : State, s.params = p → rxdOctet o (r.put s) = .next (r'.put s)) :
    RxdTakes p [o] r r' := by
  intro s hopen hparams
  exact (run_beforeTaking_octet (s := r.put s) hopen).trans (h s hparams)

variable {acc : List Octet} {crc : Word16} {lo : Octet}

/-- The start delimiter empties the payload and starts its CRC (R181 to R183). -/
theorem rxdTakes_start (hr : r.st = .hunt0) :
    RxdTakes p [syn, dle, stx] r ⟨.data, [], crcStart p.crcVariant, r.lo⟩ := by
  have hsyn : RxdTakes p [syn] r { r with st := .hunt1 } := .octet fun s _ => rxdOctet_hunt0 (s := r.put s) hr syn
  have hdle : RxdTakes p [dle] { r with st := .hunt1 } { r with st := .hunt2 } := .octet fun _ _ => rfl
  have hstx : RxdTakes p [stx] { r with st := .hunt2 } ⟨.data, [], crcStart p.crcVariant, r.lo⟩ :=
    .octet fun _ hp => hp ▸ rfl
  exact (hsyn.trans hdle).trans hstx

theorem rxdTakes_escape : RxdTakes p [dle] ⟨.data, acc, crc, lo⟩ ⟨.esc, acc, crc, lo⟩ := .octet fun _ _ => rfl

/-- One payload octet, doubled or not, enters the payload and its CRC once (R184 to R186). -/
theorem rxdTakes_stuffOctet (o : Octet) (hroom : acc.length < p.maxpkt) :
    RxdTakes p (stuffOctet o) ⟨.data, acc, crc, lo⟩ ⟨.data, acc ++ [o], crcUpdate p.crcVariant crc o, lo⟩ := by
  have hfit : acc.length ≠ p.maxpkt := Nat.ne_of_lt hroom
  by_cases ho : o = dle
  · subst ho
    refine rxdTakes_escape.trans (.octet fun s hp => ?_)
    subst hp
    exact (rxdOctet_esc rfl dle).trans (congrArg _ ((if_pos rfl).trans (if_neg hfit)))
  · rw [stuffOctet, if_neg ho]
    refine .octet fun s hp => ?_
    subst hp
    exact (rxdOctet_data rfl o).trans (congrArg _ ((if_neg ho).trans (if_neg hfit)))

theorem rxdTakes_stuff (q : List Octet) (hfits : acc.length + q.length ≤ p.maxpkt) :
    RxdTakes p (stuff q) ⟨.data, acc, crc, lo⟩ ⟨.data, acc ++ q, q.foldl (crcUpdate p.crcVariant) crc, lo⟩ := by
  induction q generalizing acc crc with
  | nil =>
    rw [List.append_nil]
    exact .nil _
  | cons o q ih =>
    rw [List.length_cons] at hfits
    have hrest := ih (acc := acc ++ [o]) (crc := crcUpdate p.crcVariant crc o) (by simp; omega)
    rw [List.append_assoc] at hrest
    exact (rxdTakes_stuffOctet o (by omega)).trans hrest

/-- The ETX of the end delimiter enters the CRC (R185, R187). -/
theorem rxdTakes_end :
    RxdTakes p [dle, etx] ⟨.data, acc, crc, lo⟩ ⟨.fcs1, acc, crcUpdate p.crcVariant crc etx, lo⟩ :=
  rxdTakes_escape.trans (.octet fun _ hp => hp ▸ rfl)

/-- The low octet of the trailer waits for the high one (R189). -/
theorem rxdTakes_fcsLo (o : Octet) : RxdTakes p [o] ⟨.fcs1, acc, crc, lo⟩ ⟨.fcs2, acc, crc, o⟩ :=
  .octet fun _ _ => rfl

/-- The running CRC of a payload and the ETX after it (40_crc16.md R145). -/
def endCrc (v : CrcVariant) (q : List Octet) : Word16 := crcUpdate v (q.foldl (crcUpdate v) (crcStart v)) etx

/-- All of `encode(q)` but the high octet of its trailer. -/
def encodeInit (v : CrcVariant) (q : List Octet) : List Octet :=
  [syn, dle, stx] ++ stuff q ++ [dle, etx] ++ [(fcs v q).extractLsb' 0 8]

theorem encodeFrame_eq_init (v : CrcVariant) (q : List Octet) :
    encodeFrame v q = encodeInit v q ++ [(fcs v q).extractLsb' 8 8] := by
  simp [encodeFrame, encodeInit, trailer]

/-- RXD with the payload `q` and its own CRC taken and the low octet of the trailer in hand. -/
def awaitingFcsHi (v : CrcVariant) (q : List Octet) : RxdPart :=
  ⟨.fcs2, q, endCrc v q, (fcs v q).extractLsb' 0 8⟩

theorem rxdTakes_encodeInit {v : CrcVariant} (hv : p.crcVariant = v) (hr : r.st = .hunt0) {q : List Octet}
    (hfits : q.length ≤ p.maxpkt) : RxdTakes p (encodeInit v q) r (awaitingFcsHi v q) := by
  subst hv
  have hpayload := rxdTakes_stuff (acc := []) (crc := crcStart p.crcVariant) (lo := r.lo) q (by simpa using hfits)
  exact (((rxdTakes_start hr).trans hpayload).trans rxdTakes_end).trans (rxdTakes_fcsLo _)

/-- The trailer's high octet completes a good frame: its packet is taken on the state as it stood (R190). -/
theorem rxdOctet_fcsHi {v : CrcVariant} (hv : s.params.crcVariant = v) (q : List Octet) :
    rxdOctet ((fcs v q).extractLsb' 8 8) ((awaitingFcsHi v q).put s) = thenNext rxdIdle (frameGood q s) := by
  subst hv
  have hcrc : crcFinish s.params.crcVariant (endCrc s.params.crcVariant q) =
      (fcs s.params.crcVariant q).extractLsb' 8 8 ++ (fcs s.params.crcVariant q).extractLsb' 0 8 :=
    (fcs_eq _ q).symm.trans (octets_append _).symm
  calc
    _ = thenNext huntingState (frameGood q ((awaitingFcsHi _ q).put s)) := rxdOctet_fcs2_good rfl hcrc
    _ = frameGood q (rxdIdle ((awaitingFcsHi _ q).put s)) := (frameGood_rxdIdle q _).symm
    _ = frameGood q (rxdIdle s) := rfl
    _ = thenNext rxdIdle (frameGood q s) := frameGood_rxdIdle q s

/-- RXD in HUNT0 takes an encoded payload as one good frame. -/
theorem run_encodeFrame {v : CrcVariant} (hv : s.params.crcVariant = v) (hopen : s.linkOpen = true)
    (hs : s.stRxd = .hunt0) {q : List Octet} (hfits : q.length ≤ s.params.maxpkt) :
    Host.Core.run Sys2Proof.core (encodeFrame v q).length (beforeTaking (encodeFrame v q) s) =
      thenNext rxdIdle (frameGood q s) := by
  have hinit : RxdTakes s.params (encodeInit v q) s.rxdPart (awaitingFcsHi v q) := rxdTakes_encodeInit hv hs hfits
  have hlast : Host.Core.run Sys2Proof.core 1
      (beforeTaking [(fcs v q).extractLsb' 8 8] ((awaitingFcsHi v q).put s)) = thenNext rxdIdle (frameGood q s) :=
    (run_beforeTaking_octet (s := (awaitingFcsHi v q).put s) hopen).trans (rxdOctet_fcsHi hv q)
  rw [encodeFrame_eq_init, beforeTaking_append, List.length_append, ← put_rxdPart_beforeTaking [_] s]
  exact (run_add_of_run (M := Sys2Proof.core) (hinit (beforeTaking _ s) hopen rfl) 1).trans hlast

end FrameReception

/-- Settles O15: RXD takes the frame's parts in turn, up to the last octet, which finds the CRC it has computed. -/
theorem rxdDecodesEncodedFrame : Obligations.RxdDecodesEncodedFrame := by
  intro s p rest sch hopen hs hfits hin hsched
  obtain ⟨t, ht⟩ := frameGood_next p { s with rxIn := rest, schedule := sch }
  have hrun := run_encodeFrame (s := { s with rxIn := rest, schedule := sch }) rfl hopen hs hfits
  rw [beforeTaking_eq_self hin hsched, ht] at hrun
  exact ⟨t, ht, hrun⟩

section ClosedLink

variable {s t : State}

/-! ## A closed link (R180, 45_retransmission.md R270, R285) -/

/-- The link is as open as before, and what is offered waits as before. -/
def SameLink (s t : State) : Prop := t.linkOpen = s.linkOpen ∧ t.rxIn = s.rxIn

theorem runCommand_sameLink (check : CmdErr) (h : SameLink s t) : SameLink s (runCommand check t s) := by
  rcases runCommand_cases check t s with ⟨-, heq⟩ | ⟨-, heq⟩ <;> rw [heq]
  · exact h
  · exact ⟨rfl, rfl⟩

/-- On a closed link OPEN is the only command that changes the link; CLOSE does nothing (46_host_commands.md R317). -/
theorem exec_command_sameLink {i : Instr} {w : Word} (hcmd : encode i = .cmd w) (hne : i ≠ .openLink)
    (hclosed : s.linkOpen = false) (he : exec i s = .next t) : SameLink s t := by
  cases i with
  | nop | clrCounters => cases he; exact ⟨rfl, rfl⟩
  | sendLr | sendLd | sendLt | sendLa | rxRelease => cases he; exact runCommand_sameLink _ ⟨rfl, rfl⟩
  | closeLink =>
    cases he
    rw [closeLinkWith_closed hclosed]
    exact ⟨rfl, rfl⟩
  | openLink => exact absurd rfl hne
  | rxLr | rxLd | rxLt | rxLa => cases hcmd

theorem cmdWrite_sameLink {w : Word} (hne : w ≠ 0x00000009) (hclosed : s.linkOpen = false)
    (he : cmdWrite w s = .next t) : SameLink s t := by
  cases hd : decodeCmd w with
  | ok i =>
    rw [cmdWrite, hd] at he
    have hcode := encode_eq_of_decodeCmd hd
    refine exec_command_sameLink hcode (fun hopen => ?_) hclosed he
    subst hopen
    exact hne (Code.cmd.inj hcode).symm
  | error e =>
    rw [cmdWrite_of_error hd] at he
    cases he
    exact ⟨rfl, rfl⟩

theorem writeWord_sameLink (off : Nat) (v : Word) (s : State) : SameLink s (writeWord off v s) := by
  unfold writeWord
  split
  · obtain ⟨m, heq, -⟩ := writeTxBufWord_spec (off - txBufBase) v s
    rw [heq]
    exact ⟨rfl, rfl⟩
  · unfold writeRegister
    split <;> exact ⟨rfl, rfl⟩

theorem hostAccess_sameLink {a : Access} (hclosed : s.linkOpen = false)
    (hwords : ∀ addr w, a = .write addr w → addr.toNat / 4 = 1 → w ≠ 0x00000009) (he : hostAccess a s = .next t) :
    SameLink s t := by
  cases a with
  | read addr => cases he; exact ⟨rfl, rfl⟩
  | write addr v =>
    simp only [hostAccess, memWrite, wordOffset_eq] at he
    split at he
    case isTrue hcmd => exact cmdWrite_sameLink (hwords addr v rfl (by omega)) hclosed he
    case isFalse => cases he; exact writeWord_sameLink _ v s

/-! ## Turns that pass -/

theorem txfStep_of_idle (h : s.stTxf = .idle) : txfStep s = .next s := by
  simp [txfStep, txfBusy, h]

theorem arbStep_of_closed (h : s.linkOpen = false) : arbStep s = s := by
  simp [arbStep, h]

theorem tmrTick_of_not_wait (h : s.stArb ≠ .wait) : tmrTick s = s :=
  if_neg fun hrun => h hrun.1

/-- What an event other than a CMD write of OPEN does to a closed link. -/
theorem runEvent_of_closed {e : Event} (h : s.Inv) (hclosed : s.linkOpen = false)
    (hwords : ∀ addr w, e = .host (.write addr w) → addr.toNat / 4 = 1 → w ≠ 0x00000009)
    (he : runEvent e s = .next t) :
    t.linkOpen = false ∧ t.txOut = s.txOut ∧ (t.rxIn = s.rxIn ∨ ∃ x, e = .offer x ∧ t.rxIn = s.rxIn ++ [x]) := by
  obtain ⟨harb, -, htxf, -⟩ := h.link.closed hclosed
  cases e with
  | host a =>
    obtain ⟨hlink, hin⟩ := hostAccess_sameLink hclosed (fun addr w ha => hwords addr w (congrArg _ ha)) he
    obtain ⟨-, hout⟩ := hostAccess_sameStream he
    exact ⟨hlink.trans hclosed, hout, .inl hin⟩
  | rxd =>
    cases (rxdStep_of_closed hclosed).symm.trans he
    exact ⟨hclosed, rfl, .inl rfl⟩
  | txf =>
    cases (txfStep_of_idle htxf).symm.trans he
    exact ⟨hclosed, rfl, .inl rfl⟩
  | arb =>
    cases he
    rw [arbStep_of_closed hclosed]
    exact ⟨hclosed, rfl, .inl rfl⟩
  | tick =>
    cases he
    rw [tmrTick_of_not_wait (by simp [harb])]
    exact ⟨hclosed, rfl, .inl rfl⟩
  | offer x => cases he; exact ⟨hclosed, rfl, .inr ⟨x, rfl, rfl⟩⟩
  | setTxReady | setSendAllowed => cases he; exact ⟨hclosed, rfl, .inl rfl⟩
  | rst => cases he; exact ⟨rfl, rfl, .inl rfl⟩

end ClosedLink

/-- Settles O60: the agents' turns pass, no command but OPEN opens the link, and the invariant keeps ARB of a closed link
idle. -/
theorem onlyOpenLeavesClosedLink : Obligations.OnlyOpenLeavesClosedLink := by
  intro s t e sch h hclosed hsched he hwords
  have htaken : ({ s with schedule := sch } : State).Inv := h.of_core_eq
  have hrun := (step_of_schedule_cons hsched).symm.trans he
  obtain ⟨hstays, hout, hin⟩ := runEvent_of_closed htaken hclosed hwords hrun
  obtain ⟨harb, -⟩ := (step_keeps_inv h he).link.closed hstays
  exact ⟨hstays, hout, harb, hin⟩

end Sys2Proof.Machine

/-! The family of spec/43_packet_header.md: a payload read at its type offset, the headers MNPLINK builds, and what each
received packet does with and without room in RXQ. A payload either ends before its type code or is a length field, a type
code and a body (`payload_cases`); classification and the built headers are both read off that form. -/

namespace Sys2Proof.Machine

section Classification

variable {p : List Octet} {i : Instr} {len : LenField}

/-! ## The form of a payload (R214) -/

/-- The offset of the type code (R214): the length field has three octets if it begins with 0xFF, else one. -/
def typeOffset (p : List Octet) : Nat := if p.getD 0 0 = 0xFF#8 then 3 else 1

theorem typeOffset_packetOctets (hlen : len.wf = true) (ty : Octet) (body : List Octet) :
    typeOffset (packetOctets len ty body) = len.octets.length := by
  cases len with
  | short l =>
    have hl : l ≠ 0xFF#8 := by simpa [LenField.wf] using hlen
    exact if_neg hl
  | extended n => rfl

/-- Past the length field a payload continues with its type code and body. -/
theorem getD_packetOctets (len : LenField) (ty : Octet) (body : List Octet) (k : Nat) :
    (packetOctets len ty body).getD (len.octets.length + k) 0 = (ty :: body).getD k 0 := by
  rw [packetOctets, List.getD_append_right _ _ _ _ (Nat.le_add_right _ _), Nat.add_sub_cancel_left]

/-- A payload ends before its type code, or has a length field, a type code and a body. -/
theorem payload_cases (p : List Octet) :
    (p.length < typeOffset p + 1 ∧ decodePacket p = .error .noTypeCode) ∨
    ∃ len ty body, len.wf = true ∧ p = packetOctets len ty body := by
  cases p with
  | nil => exact .inl ⟨by decide, rfl⟩
  | cons l rest =>
    by_cases hl : l = 0xFF#8
    · subst hl
      match rest with
      | [] | [_] | [_, _] => exact .inl ⟨by simp [typeOffset], rfl⟩
      | h :: lo :: ty :: body =>
        exact .inr ⟨.extended (h ++ lo), ty, body, rfl, by simp [packetOctets, LenField.octets]⟩
    · cases rest with
      | nil => exact .inl ⟨by simp [typeOffset, hl], by simp [decodePacket, decodeAfterLen, hl]⟩
      | cons ty body => exact .inr ⟨.short l, ty, body, by simpa [LenField.wf] using hl, rfl⟩

/-! ## Classification (R215) -/

/-- The kind, sequence and credit that an instruction's operands give. -/
def packetKind : Instr → RxKind × Octet × Octet
  | .rxLr _ _ => (.lr, 0, 0)
  | .rxLd _ _ => (.ld, 0, 0)
  | .rxLt _ q _ => (.lt, q, 0)
  | .rxLa _ q c _ => (.la, q, c)
  | _ => (.other, 0, 0)

theorem classify_of_ok (hd : decodePacket p = .ok i) : classify p = packetKind i := by
  rw [classify, hd]
  cases i <;> rfl

theorem classify_of_error {e : Reject} (hd : decodePacket p = .error e) : classify p = (.other, 0, 0) := by
  rw [classify, hd]

/-- Whatever the length field says, a payload is classified by its type code and the octets after it. -/
theorem classify_packetOctets (hlen : len.wf = true) (ty : Octet) (body : List Octet) :
    classify (packetOctets len ty body) =
      if ty = 0x01#8 then (.lr, 0, 0)
      else if ty = 0x02#8 then (.ld, 0, 0)
      else if ty = 0x04#8 ∧ 1 ≤ body.length then (.lt, body.getD 0 0, 0)
      else if ty = 0x05#8 ∧ 2 ≤ body.length then (.la, body.getD 0 0, body.getD 1 0)
      else (.other, 0, 0) := by
  have hdecode := decodePacket_packetOctets hlen ty body
  by_cases hlr : ty = 0x01#8
  · subst hlr
    exact classify_of_ok hdecode
  by_cases hld : ty = 0x02#8
  · subst hld
    exact classify_of_ok hdecode
  by_cases hlt : ty = 0x04#8
  · subst hlt
    cases body with
    | nil => exact classify_of_error hdecode
    | cons q data => simpa [packetKind] using classify_of_ok hdecode
  by_cases hla : ty = 0x05#8
  · subst hla
    match body with
    | [] | [_] => exact classify_of_error hdecode
    | q :: c :: data => simpa [packetKind] using classify_of_ok hdecode
  have hunknown : decodeBody len ty body = .error .unknownType := by
    have code : ∀ {c : Octet}, ty.toNat = c.toNat → ty = c := BitVec.eq_of_toNat_eq
    unfold decodeBody
    split
    case h_1 h => exact absurd (code (c := 0x01) h) hlr
    case h_2 h => exact absurd (code (c := 0x02) h) hld
    case h_3 h => exact absurd (code (c := 0x04) h) hlt
    case h_4 h => exact absurd (code (c := 0x05) h) hla
    case h_5 => rfl
  simp [classify_of_error (hdecode.trans hunknown), hlr, hld, hlt, hla]

end Classification

/-- Settles O5, by the form of the payload: its type offset is the size of its length field. -/
theorem classifyReadsTypeOffset : Obligations.ClassifyReadsTypeOffset := by
  intro p t
  have ht : t = typeOffset p := rfl
  clear_value t
  subst ht
  rcases payload_cases p with ⟨hshort, hd⟩ | ⟨len, ty, body, hlen, rfl⟩
  · rw [classify_of_error hd, if_pos hshort]
  · have hlength := packetOctets_length len ty body
    have hty := getD_packetOctets len ty body 0
    rw [Nat.add_zero] at hty
    have hseq := getD_packetOctets len ty body 1
    have hcredit := getD_packetOctets len ty body 2
    have hlt : len.octets.length + 2 ≤ (packetOctets len ty body).length ↔ 1 ≤ body.length := by omega
    have hla : len.octets.length + 3 ≤ (packetOctets len ty body).length ↔ 2 ≤ body.length := by omega
    have hlong : ¬ (packetOctets len ty body).length < len.octets.length + 1 := by omega
    rw [typeOffset_packetOctets hlen, if_neg hlong, classify_packetOctets hlen]
    simp only [hlt, hla, hty, hseq, hcredit, List.getD_cons_zero, List.getD_cons_succ]

section BuiltHeaders

/-! ## The headers MNPLINK builds (R211, R212; 30_encoding.md R113) -/

variable {total : Nat}

theorem builtLen_remainder_short (header : Nat) (h : total ≤ 254) :
    builtLen .remainder header total = .short (BitVec.ofNat 8 total) := if_pos h

theorem builtLen_remainder_extended (header : Nat) (h : 254 < total) :
    builtLen .remainder header total = .extended (BitVec.ofNat 16 total) := if_neg (by omega)

/-- A length in the extended form, high octet first (30_encoding.md R108). -/
theorem octets_extended_ofNat (n : Nat) :
    (LenField.extended (BitVec.ofNat 16 n)).octets = [0xFF, BitVec.ofNat 8 (n / 256), BitVec.ofNat 8 (n % 256)] := by
  have hhigh : (BitVec.ofNat 16 n).extractLsb' 8 8 = BitVec.ofNat 8 (n / 256) := by
    apply BitVec.eq_of_toNat_eq
    simp [BitVec.extractLsb'_toNat, Nat.shiftRight_eq_div_pow]
    omega
  have hlow : (BitVec.ofNat 16 n).extractLsb' 0 8 = BitVec.ofNat 8 (n % 256) := by
    apply BitVec.eq_of_toNat_eq
    simp [BitVec.extractLsb'_toNat]
  rw [LenField.octets, hhigh, hlow]
  rfl

theorem short_ofNat_wf {n : Nat} (h : n ≤ 254) : (LenField.short (BitVec.ofNat 8 n)).wf = true := by
  have hne : BitVec.ofNat 8 n ≠ 0xFF#8 := by bv_omega
  simpa [LenField.wf] using hne

/-- A built length field never writes the 0xFF of the extended form as a short length. -/
theorem builtLen_wf (m : LenMode) {header : Nat} (h : header ≤ 254) (total : Nat) :
    (builtLen m header total).wf = true := by
  cases m with
  | header => exact short_ofNat_wf h
  | remainder =>
    rcases Nat.lt_or_ge 254 total with hlong | hshort
    · rw [builtLen_remainder_extended header hlong]
      rfl
    · rw [builtLen_remainder_short header hshort]
      exact short_ofNat_wf hshort

end BuiltHeaders

/-- Settles O13, by the length mode and, in REMAINDER mode, by whether one octet holds the length. -/
theorem builtHeadersOctetByOctet : Obligations.BuiltHeadersOctetByOctet := by
  intro q c d _
  refine ⟨rfl, rfl, fun h => ?_, fun h => ?_, fun h => ?_, fun h => ?_⟩
  · rw [buildLt, builtLen_remainder_short 2 (by omega)]
    rfl
  · rw [buildLt, builtLen_remainder_extended 2 (by omega), packetOctets, octets_extended_ofNat]
    rfl
  · rw [buildLa, builtLen_remainder_short 3 (by omega)]
    rfl
  · rw [buildLa, builtLen_remainder_extended 3 (by omega), packetOctets, octets_extended_ofNat]
    rfl

/-- Settles O14: a built length field is well formed, so classification skips it and reads the type code. -/
theorem builtHeadersClassifyBack : Obligations.BuiltHeadersClassifyBack := by
  intro m q c d _
  have hlt := builtLen_wf m (header := 2) (by decide) (2 + d.length)
  have hla := builtLen_wf m (header := 3) (by decide) (3 + d.length)
  exact ⟨classify_of_ok (i := .rxLt _ q d) (decodePacket_packetOctets hlt _ _),
    classify_of_ok (i := .rxLa _ q c d) (decodePacket_packetOctets hla _ _)⟩

section ReceivedPackets

variable (s : State) (len : LenField) (q c : Octet) (p body : List Octet)

/-! ## What each received packet does (R220 to R226) -/

theorem withRxRoom_eq (t : State) :
    withRxRoom s t =
      if s.rxq.length = s.params.rxqDepth then { s with cntRxOverflow := countOne s.cntRxOverflow } else t := by
  split
  case isTrue h => rw [withRxRoom_full h, rxOverflow_eq]
  case isFalse h => exact withRxRoom_room h t

/-- The sequence filter accepts the next sequence and drops and counts any other (44_sequencer.md R245, R246). -/
theorem seqFilter_eq :
    seqFilter q p s =
      if q = s.rxLast + 1 then { deliveredState .lt q 0 p s with rxLast := q }
      else { s with cntSeqDrop := countOne s.cntSeqDrop } := by
  rw [seqFilter, seqDrop, sat16Inc_eq_countOne]
  rfl

theorem exec_rxLr :
    exec (.rxLr len body) s = .next (
      if s.rxq.length = s.params.rxqDepth then { s with cntRxOverflow := countOne s.cntRxOverflow }
      else { deliveredState .lr 0 0 (packetOctets len 0x01 body) s with rxLast := 0 }) :=
  congrArg _ (withRxRoom_eq s _)

theorem exec_rxLd :
    exec (.rxLd len body) s = .next (
      if s.rxq.length = s.params.rxqDepth then { s with cntRxOverflow := countOne s.cntRxOverflow }
      else deliveredState .ld 0 0 (packetOctets len 0x02 body) s) :=
  congrArg _ (withRxRoom_eq s _)

theorem exec_rxLt :
    exec (.rxLt len q body) s = .next (
      if s.rxq.length = s.params.rxqDepth then { s with cntRxOverflow := countOne s.cntRxOverflow }
      else if q = s.rxLast + 1 then { deliveredState .lt q 0 (packetOctets len 0x04 (q :: body)) s with rxLast := q }
      else { s with cntSeqDrop := countOne s.cntSeqDrop }) := by
  rw [← seqFilter_eq]
  exact congrArg _ (withRxRoom_eq s _)

/-- An LA is recorded and matched before room in RXQ is looked at (R221). -/
theorem exec_rxLa :
    exec (.rxLa len q c body) s = .next (
      if s.rxq.length = s.params.rxqDepth then
        { laRecordedState q c s with cntRxOverflow := countOne s.cntRxOverflow }
      else deliveredState .la q c (packetOctets len 0x05 (q :: c :: body)) (laRecordedState q c s)) := by
  rw [← laReceive_eq]
  exact congrArg _ (withRxRoom_eq (laReceive q c s) _)

theorem deliverOther_eq :
    deliverOther p s =
      if s.rxq.length = s.params.rxqDepth then { s with cntRxOverflow := countOne s.cntRxOverflow }
      else deliveredState .other 0 0 p s :=
  withRxRoom_eq s _

theorem frameGood_of_ok {p : List Octet} {i : Instr} (hd : decodePacket p = .ok i) (s : State) :
    frameGood p s = exec i s := by
  rw [frameGood, hd]

theorem frameGood_of_error {p : List Octet} {e : Reject} (hd : decodePacket p = .error e) (s : State) :
    frameGood p s = .next (deliverOther p s) := by
  rw [frameGood, hd]

end ReceivedPackets

/-- Settles O19: a good payload is the encoded form of the packet it decodes to, or is OTHER. -/
theorem goodFrameAction : Obligations.GoodFrameAction := by
  intro p s
  cases hd : decodePacket p with
  | error e => rw [frameGood_of_error hd, classify_of_error hd, deliverOther_eq]
  | ok i =>
    have hp := encode_of_decodePacket hd
    rw [frameGood_of_ok hd, classify_of_ok hd]
    cases i with
    | nop | sendLr | sendLd | sendLt | sendLa | closeLink | openLink | rxRelease | clrCounters => cases hp
    | rxLr len body => cases hp; exact exec_rxLr s len body
    | rxLd len body => cases hp; exact exec_rxLd s len body
    | rxLt len q data => cases hp; exact exec_rxLt s len q data
    | rxLa len q c data => cases hp; exact exec_rxLa s len q c data

/-- Settles O20: each is the packet's equation where RXQ has room. -/
theorem receivedLrAndLdDelivered : Obligations.ReceivedLrAndLdDelivered := by
  intro p len body s hroom
  refine ⟨fun hp => ?_, fun hp => ?_⟩ <;> cases hp
  · rw [exec_rxLr, if_neg hroom]
  · rw [exec_rxLd, if_neg hroom]

/-- Settles O23: each is the packet's equation where RXQ is full; the LA's has the acknowledgement applied. -/
theorem fullReceiveQueueDropsPacket : Obligations.FullReceiveQueueDropsPacket := by
  intro len body q c s hfull
  rw [exec_rxLr, exec_rxLd, exec_rxLt, exec_rxLa, deliverOther_eq]
  simp only [if_pos hfull, and_self]

end Sys2Proof.Machine

/-! The family of spec/44_sequencer.md: the sequence filter and the acknowledgement of a received packet that finds room in
RXQ, and the sequences that a series of SEND_LT commands assigns. -/

namespace Sys2Proof.Machine

/-- Settles O21: where RXQ has room, RX_LT is the sequence filter, whose condition on octets is the one modulo 256. -/
theorem receivedLtSequenceFilter : Obligations.ReceivedLtSequenceFilter := by
  intro p len q data s hp hroom
  cases hp
  have hseq : q = s.rxLast + 1 ↔ q.toNat = (s.rxLast.toNat + 1) % 256 := by
    rw [← BitVec.toNat_inj, BitVec.toNat_add]
    rfl
  rw [exec_rxLt, if_neg hroom]
  exact ⟨fun h => by rw [if_pos (hseq.2 h)], fun h => by rw [if_neg (mt hseq.1 h)]⟩

/-- Settles O22: the LA's equation where RXQ has room. -/
theorem receivedLaRecordsAndMatches : Obligations.ReceivedLaRecordsAndMatches := by
  intro p len q c data s hp hroom
  cases hp
  rw [exec_rxLa, if_neg hroom]

section SendLtSeries

variable {s : State} {w : Word} {sch : List Event} {n : Nat}

/-! ## A series of CMD writes -/

theorem cmdWrite_of_ok {i : Instr} (hd : decodeCmd w = .ok i) (s : State) : cmdWrite w s = exec i s := by
  rw [cmdWrite, hd]

/-- The first of a series of CMD writes leaves the others scheduled. -/
theorem step_cmdWrites (hsched : s.schedule = cmdWrites (n + 1) w ++ sch) :
    step s = cmdWrite w { s with schedule := cmdWrites n w ++ sch } :=
  step_of_schedule_cons hsched

/-! ## SEND_LT with its checks passed (R240, R241; 46_host_commands.md R315) -/

/-- What an accepted SEND_LT leaves. -/
def sentLtState (s : State) : State := { queueLt (txData s) (seqAssign s) with cmdErr := .ok }

@[simp] theorem sentLtState_txSeq (s : State) : (sentLtState s).txSeq = s.txSeq + 1 := rfl

@[simp] theorem sentLtState_seqs (s : State) :
    (sentLtState s).txq.map TxEntry.seq = s.txq.map TxEntry.seq ++ [s.txSeq + 1] :=
  List.map_append

@[simp] theorem sentLtState_txq_length (s : State) : (sentLtState s).txq.length = s.txq.length + 1 :=
  List.length_append

theorem exec_sendLt_accepted (hopen : s.linkOpen = true) (hlen : 1 ≤ s.txLen.toNat ∧ s.txLen.toNat ≤ s.cfgMaxinfo.toNat)
    (hroom : s.txq.length ≠ s.params.txqDepth) : exec .sendLt s = .next (sentLtState s) := by
  have hok := (checkSendLt_ok s).2 ⟨hopen, hlen, hroom⟩
  rw [exec, execSendLt, hok]
  rfl

theorem step_sendLt_accepted (hopen : s.linkOpen = true)
    (hlen : 1 ≤ s.txLen.toNat ∧ s.txLen.toNat ≤ s.cfgMaxinfo.toNat) (hroom : s.txq.length ≠ s.params.txqDepth)
    (hsched : s.schedule = cmdWrites (n + 1) 0x00000004 ++ sch) :
    step s = .next (sentLtState { s with schedule := cmdWrites n 0x00000004 ++ sch }) := by
  have hd : decodeCmd 0x00000004 = .ok .sendLt := by decide
  rw [step_cmdWrites hsched, cmdWrite_of_ok hd]
  exact exec_sendLt_accepted hopen hlen hroom

/-! ## The sequences of a series (R243 from any TX_SEQ) -/

/-- The sequence that is `k` after `q`, modulo 256. -/
def seqAfter (q : Octet) (k : Nat) : Octet := BitVec.ofNat 8 (q.toNat + k)

@[simp] theorem seqAfter_zero (q : Octet) : seqAfter q 0 = q := by simp [seqAfter]

theorem seqAfter_succ (q : Octet) (k : Nat) : seqAfter q (k + 1) = seqAfter (q + 1) k := by
  simp only [seqAfter, BitVec.ofNat_add, BitVec.ofNat_toNat, BitVec.setWidth_eq]
  rw [BitVec.add_assoc, BitVec.add_comm (BitVec.ofNat 8 k)]
  rfl

/-- The first of a series has the sequence next to `q`, the others follow that one. -/
theorem map_seqAfter_range_succ (q : Octet) (n : Nat) :
    (List.range (n + 1)).map (fun k => seqAfter q (k + 1)) =
      (q + 1) :: (List.range n).map (fun k => seqAfter (q + 1) (k + 1)) := by
  rw [List.range_succ_eq_map, List.map_cons, List.map_map, seqAfter_succ, seqAfter_zero]
  exact congrArg _ (List.map_congr_left fun k _ => seqAfter_succ q (k + 1))

end SendLtSeries

/-- Settles O33, by induction on the number of commands: the first assigns the next sequence, and the others run from the
state it leaves. -/
theorem sendLtNumbersConsecutively : Obligations.SendLtNumbersConsecutively := by
  intro n
  induction n with
  | zero =>
    intro s _ _ _ _ _ _
    exact ⟨s, rfl, (seqAfter_zero s.txSeq).symm, (List.append_nil _).symm⟩
  | succ n ih =>
    intro s sch hopen hmin hmax hroom hsched
    have hstep := step_sendLt_accepted hopen ⟨hmin, hmax⟩ (by omega) hsched
    obtain ⟨t, hrun, hlast, hseqs⟩ :=
      ih (sentLtState { s with schedule := cmdWrites n 0x00000004 ++ sch }) sch hopen hmin hmax
        (by rw [sentLtState_txq_length, Nat.add_assoc, Nat.add_comm 1]; exact hroom) rfl
    refine ⟨t, (run_succ_of_step (M := Sys2Proof.core) hstep n).trans hrun, ?_, ?_⟩
    · rw [hlast, sentLtState_txSeq]
      exact (seqAfter_succ s.txSeq n).symm
    · rw [hseqs, sentLtState_seqs, List.append_assoc, List.singleton_append]
      exact congrArg _ (map_seqAfter_range_succ s.txSeq n).symm

end Sys2Proof.Machine

/-! The family of spec/45_retransmission.md: ARB's turn state by state, the timer, the close sequence, and the attempts of
a packet that nothing acknowledges. An attempt is run up to its timeout once; the retry budget is then an induction on the
attempts left. -/

namespace Sys2Proof.Machine

section Arbiter

variable {s : State}

/-! ## The shared operations as whole next states (R271, R273, R278, R284, R285) -/

theorem needsAck_eq_decide (k : TxKind) : k.needsAck = decide (k = .lr ∨ k = .lt) := by
  cases k <;> rfl

theorem completeAcked_eq (s : State) : completeAcked s = ackedState 0x08 s := rfl

/-- An interrupt bit set before the completion is one more bit of it. -/
theorem ackedState_irqSet (b : IrqBit) (m : Octet) (s : State) :
    ackedState m (irqSet b s) = ackedState (b.mask ||| m) s := by
  simp only [ackedState, irqSet, BitVec.or_assoc]

theorem closeLinkWith_eq_closedState (hopen : s.linkOpen = true) (c : CloseCause) :
    closeLinkWith c s = closedState c (closeMask c) s :=
  (closeLinkWith_open hopen c).trans (closeOpenLink_eq c s)

/-- After a close the link is closed, whether it was open or not. -/
theorem closeLinkWith_linkOpen (c : CloseCause) (s : State) : (closeLinkWith c s).linkOpen = false := by
  cases hopen : s.linkOpen
  case false => rw [closeLinkWith_closed hopen, hopen]
  case true => rw [closeLinkWith_eq_closedState hopen, closedState]

theorem failedAttempt_of_budget (h : s.attempts.toNat < s.cfgRetry.toNat) :
    failedAttempt s = { s with timer := 0, stArb := .hold } :=
  if_neg (Nat.not_le.2 h)

theorem failedAttempt_of_spent (hopen : s.linkOpen = true) (h : s.cfgRetry.toNat ≤ s.attempts.toNat) :
    failedAttempt s = closedState .timeout 0x30 s :=
  (if_pos h).trans (closeLinkWith_eq_closedState hopen .timeout)

/-! ## ARB's turn by its state (R270 to R287) -/

theorem arbStep_of_empty (ha : s.stArb = .idle) (hq : s.txq = []) : arbStep s = s := by
  simp [arbStep, arbOpen, ha, hq]

theorem arbStep_of_head {e : TxEntry} {rest : List TxEntry} (hopen : s.linkOpen = true) (ha : s.stArb = .idle)
    (hq : s.txq = e :: rest) : arbStep s = arbPop e rest s := by
  simp [arbStep, arbOpen, hopen, ha, hq]

theorem arbStep_of_attempt (hopen : s.linkOpen = true) (ha : s.stArb = .hold) (hm : s.ackMatch = false)
    (hallowed : s.sendAllowed = true) (hidle : s.stTxf = .idle) : arbStep s = attemptStart s := by
  simp [arbStep, arbOpen, arbHold, txfBusy, hopen, ha, hm, hallowed, hidle]

theorem arbStep_of_held (ha : s.stArb = .hold) (hm : s.ackMatch = false)
    (hheld : s.sendAllowed = false ∨ s.stTxf = .busy) : arbStep s = s := by
  rcases hheld with h | h <;> simp [arbStep, arbOpen, arbHold, txfBusy, ha, hm, h]

theorem arbStep_of_sent (hopen : s.linkOpen = true) (ha : s.stArb = .sending) (hidle : s.stTxf = .idle) :
    arbStep s = frameSent s := by
  simp [arbStep, arbOpen, txfBusy, hopen, ha, hidle]

theorem arbStep_of_sent_no_ack_needed (hopen : s.linkOpen = true) (ha : s.stArb = .sending) (hidle : s.stTxf = .idle)
    (hn : s.needsAck = false) : arbStep s = completeSent (irqSet .txSent s) := by
  simp [arbStep_of_sent hopen ha hidle, frameSent, hn]

theorem arbStep_of_sent_acked (hopen : s.linkOpen = true) (ha : s.stArb = .sending) (hidle : s.stTxf = .idle)
    (hn : s.needsAck = true) (hm : s.ackMatch = true) : arbStep s = completeAcked (irqSet .txSent s) := by
  simp [arbStep_of_sent hopen ha hidle, frameSent, hn, hm]

theorem arbStep_of_sent_unacked (hopen : s.linkOpen = true) (ha : s.stArb = .sending) (hidle : s.stTxf = .idle)
    (hn : s.needsAck = true) (hm : s.ackMatch = false) : arbStep s = enterWait (irqSet .txSent s) := by
  simp [arbStep_of_sent hopen ha hidle, frameSent, hn, hm]

theorem arbStep_of_sending (ha : s.stArb = .sending) (hbusy : s.stTxf = .busy) : arbStep s = s := by
  simp [arbStep, arbOpen, txfBusy, ha, hbusy]

/-- ACK_MATCH is looked at before anything else, in HOLD and in WAIT (R287). -/
theorem arbStep_of_acked (hopen : s.linkOpen = true) (ha : s.stArb = .hold ∨ s.stArb = .wait)
    (hm : s.ackMatch = true) : arbStep s = completeAcked s := by
  rcases ha with h | h <;> simp [arbStep, arbOpen, arbHold, arbWait, hopen, h, hm]

theorem arbStep_of_failed (hopen : s.linkOpen = true) (ha : s.stArb = .wait) (hm : s.ackMatch = false)
    (hfail : s.sendAllowed = false ∨ s.timer = 0) : arbStep s = failedAttempt s := by
  rcases hfail with h | h <;> simp [arbStep, arbOpen, arbWait, hopen, ha, hm, h]

theorem arbStep_of_waiting (ha : s.stArb = .wait) (hm : s.ackMatch = false) (hallowed : s.sendAllowed = true)
    (ht : s.timer ≠ 0) : arbStep s = s := by
  have hstays : arbWait s = s := by simp only [arbWait, hm, hallowed, if_neg ht]; rfl
  simp [arbStep, arbOpen, ha, hstays]

/-! ## TXF, RXD and the timer (R281; 41_frame_encoder.md R163, 42_frame_decoder.md R180) -/

theorem txfStep_of_not_ready (h : s.txReady = false) : txfStep s = .next s := by
  simp [txfStep, h]

theorem rxdStep_of_no_input (h : s.rxIn = []) : rxdStep s = .next s := by
  simp [rxdStep, h]

theorem tmrTick_of_running (ha : s.stArb = .wait) (ht : 0 < s.timer.toNat) :
    tmrTick s = { s with timer := s.timer - 1 } :=
  if_pos ⟨ha, ht⟩

theorem tmrTick_of_expired (ht : s.timer.toNat = 0) : tmrTick s = s :=
  if_neg fun hrun => Nat.ne_of_gt hrun.2 ht

theorem timer_pred_toNat {n : Nat} (t : Word) (ht : t.toNat = n + 1) : (t - 1).toNat = n := by
  bv_omega

end Arbiter

/-- Settles O34: LR and LT are the kinds that need an acknowledgement. -/
theorem arbPopsHeadOfQueue : Obligations.ArbPopsHeadOfQueue := by
  intro s e rest hopen hidle hq
  rw [arbStep_of_head hopen hidle hq, arbPop, needsAck_eq_decide]

/-- Settles O35: the loaded frame and TX_SENDING are `attemptStart` written out. -/
theorem attemptStartsFromHold : Obligations.AttemptStartsFromHold := by
  intro s hopen hhold hm hallowed hidle
  exact arbStep_of_attempt hopen hhold hm hallowed hidle

/-- Settles O36: an acknowledged completion has TX_SENT as one more bit, the other two cases are the rule's. -/
theorem endOfFrameCompletesOrWaits : Obligations.EndOfFrameCompletesOrWaits := by
  intro s hopen hsending hidle
  refine ⟨fun hn => arbStep_of_sent_no_ack_needed hopen hsending hidle hn, fun hn hm => ?_,
    fun hn hm => arbStep_of_sent_unacked hopen hsending hidle hn hm⟩
  rw [arbStep_of_sent_acked hopen hsending hidle hn hm, completeAcked_eq, ackedState_irqSet]
  rfl

/-- Settles O37: an acknowledgement comes before the failures, and the budget decides what a failed attempt does. -/
theorem attemptIsAcknowledgedOrFails : Obligations.AttemptIsAcknowledgedOrFails := by
  intro s hopen
  refine ⟨fun ha hm => arbStep_of_acked hopen ha hm, fun ha hm hfail => ?_⟩
  rw [arbStep_of_failed hopen ha hm hfail]
  exact ⟨failedAttempt_of_budget, failedAttempt_of_spent hopen⟩

/-- Settles O38: each way an agent can be without a step. -/
theorem disabledAgentsHoldState : Obligations.DisabledAgentsHoldState := by
  intro s
  refine ⟨?_, ?_, ?_⟩
  · rintro (hclosed | ⟨ha, hq⟩ | ⟨ha, hm, hheld⟩ | ⟨ha, hbusy⟩ | ⟨ha, hm, hallowed, ht⟩)
    · exact arbStep_of_closed hclosed
    · exact arbStep_of_empty ha hq
    · exact arbStep_of_held ha hm hheld
    · exact arbStep_of_sending ha hbusy
    · exact arbStep_of_waiting ha hm hallowed ht
  · rintro (hready | hidle)
    · exact txfStep_of_not_ready hready
    · exact txfStep_of_idle hidle
  · rintro (hclosed | hin)
    · exact rxdStep_of_closed hclosed
    · exact rxdStep_of_no_input hin

/-- Settles O39: TIMER above 0 does not wrap when one is taken from it. -/
theorem tickDecrementsTimerInWait : Obligations.TickDecrementsTimerInWait := by
  intro s
  refine ⟨fun hwait ht => ⟨_, tmrTick_of_running hwait ht, timer_pred_toNat _ (Nat.sub_add_cancel ht).symm⟩, ?_⟩
  rintro (hne | ht)
  · exact tmrTick_of_not_wait hne
  · exact tmrTick_of_expired ht

/-- Settles O40: a second close finds the link closed by the first. -/
theorem closeSequenceIsIdempotent : Obligations.CloseSequenceIsIdempotent := by
  intro s
  refine ⟨fun hopen => ?_, fun c hclosed => closeLinkWith_closed hclosed c, fun c d => ?_⟩
  · exact ⟨closeLinkWith_eq_closedState hopen .host, closeLinkWith_eq_closedState hopen .timeout,
      closeLinkWith_eq_closedState hopen .eos⟩
  · exact closeLinkWith_closed (closeLinkWith_linkOpen c s) d

section Attempts

variable {s t : State} {sch : List Event}

/-! ## The turns of an attempt that nothing acknowledges -/

theorem step_arb (hsched : s.schedule = .arb :: sch) (hturn : arbStep { s with schedule := sch } = t) :
    step s = .next t :=
  (step_of_schedule_cons hsched).trans (congrArg _ hturn)

theorem step_tick (hsched : s.schedule = .tick :: sch) (hturn : tmrTick { s with schedule := sch } = t) :
    step s = .next t :=
  (step_of_schedule_cons hsched).trans (congrArg _ hturn)

/-- In WAIT a tick for each count of the timer brings it to 0 (R281). -/
theorem run_ticks (n : Nat) (ha : s.stArb = .wait) (ht : s.timer.toNat = n)
    (hsched : s.schedule = List.replicate n .tick ++ sch) :
    Host.Core.run Sys2Proof.core n s = .next { s with timer := 0, schedule := sch } := by
  induction n generalizing s with
  | zero =>
    have hzero : s.timer = 0 := BitVec.eq_of_toNat_eq ht
    have hdone : s.schedule = sch := hsched
    rw [← hzero, ← hdone]
    rfl
  | succ n ih =>
    have hrunning : 0 < s.timer.toNat := ht ▸ n.succ_pos
    have htick := step_tick hsched (tmrTick_of_running ha hrunning)
    exact (run_succ_of_step (M := Sys2Proof.core) htick n).trans (ih ha (timer_pred_toNat _ ht) rfl)

/-! ## The attempt as a whole (R273, R274, R280, R283) -/

/-- A packet in HOLD that needs an acknowledgement and has none, with nothing in the way of an attempt. -/
structure ReadyToAttempt (s : State) : Prop where
  linkOpen : s.linkOpen = true
  hold : s.stArb = .hold
  needsAck : s.needsAck = true
  unacked : s.ackMatch = false
  sendAllowed : s.sendAllowed = true
  txReady : s.txReady = true
  txfIdle : s.stTxf = .idle

/-- The frame of the pending packet. -/
def pendingFrame (s : State) : List Octet := encodeFrame s.params.crcVariant s.pendPayload

/-- The state in which an attempt started in `s` has emitted its frame. -/
def emittedState (s : State) : State :=
  { s with
    attempts := s.attempts + 1, txOut := s.txOut ++ pendingFrame s, stTxf := .idle, txWire := [], txIdx := 0,
    stArb := .sending, irqStatus := s.irqStatus ||| 0x02#8 }

/-- The state in which the wait for an acknowledgement of the frame emitted in `s` has run out. -/
def timedOutState (s : State) : State :=
  { s with timer := 0, stArb := .wait, irqStatus := s.irqStatus ||| 0x04#8 }

theorem run_attemptStart (h : ReadyToAttempt s)
    (hsched : s.schedule = .arb :: (List.replicate (pendingFrame s).length .txf ++ sch)) :
    Host.Core.run Sys2Proof.core ((pendingFrame s).length + 1) s = .next { emittedState s with schedule := sch } := by
  have hne : pendingFrame s ≠ [] := List.ne_nil_of_length_pos (encodeFrame_length_pos _ _)
  have hstart := step_arb hsched (arbStep_of_attempt h.linkOpen h.hold h.unacked h.sendAllowed h.txfIdle)
  exact (run_succ_of_step (M := Sys2Proof.core) hstart _).trans (run_txf _ hne sch rfl h.txReady rfl rfl)

theorem run_wait (hopen : s.linkOpen = true) (ha : s.stArb = .sending) (hidle : s.stTxf = .idle)
    (hneeds : s.needsAck = true) (hm : s.ackMatch = false)
    (hsched : s.schedule = .arb :: (List.replicate s.cfgTimeout.toNat .tick ++ sch)) :
    Host.Core.run Sys2Proof.core (s.cfgTimeout.toNat + 1) s = .next { timedOutState s with schedule := sch } := by
  have hsent := step_arb hsched (arbStep_of_sent_unacked hopen ha hidle hneeds hm)
  exact (run_succ_of_step (M := Sys2Proof.core) hsent _).trans (run_ticks _ rfl rfl rfl)

/-- The schedule of one attempt, part by part. -/
theorem attemptEvents_append (n ticks : Nat) (sch : List Event) :
    attemptEvents n ticks ++ sch =
      .arb :: (List.replicate n .txf ++ .arb :: (List.replicate ticks .tick ++ .arb :: sch)) := by
  simp [attemptEvents]

/-- An attempt that runs to its timeout is a failed one. -/
theorem run_attemptEvents (h : ReadyToAttempt s)
    (hsched : s.schedule = attemptEvents (pendingFrame s).length s.cfgTimeout.toNat ++ sch) :
    Host.Core.run Sys2Proof.core ((pendingFrame s).length + s.cfgTimeout.toNat + 3) s =
      .next (failedAttempt { timedOutState (emittedState s) with schedule := sch }) := by
  rw [attemptEvents_append] at hsched
  have hemit := run_attemptStart h hsched
  have hwait := run_wait
    (s := { emittedState s with schedule := .arb :: (List.replicate s.cfgTimeout.toNat .tick ++ .arb :: sch) })
    h.linkOpen rfl rfl h.needsAck h.unacked rfl
  have hfail := step_arb (s := { timedOutState (emittedState s) with schedule := .arb :: sch }) rfl
    (arbStep_of_failed h.linkOpen rfl h.unacked (.inr rfl))
  have hturns : (pendingFrame s).length + s.cfgTimeout.toNat + 3 =
      (pendingFrame s).length + 1 + (s.cfgTimeout.toNat + 1 + 1) := by omega
  rw [hturns]
  exact (run_add_of_run hemit _).trans <| (run_add_of_run hwait 1).trans <| (run_one Sys2Proof.core _).trans hfail

/-! ## The retry budget (R284, R288) -/

/-- The state after `n` attempts from `s` of which the last has spent the budget. -/
def exhaustedState (n : Nat) (s : State) : State :=
  { closedState .timeout 0x36 s with txOut := s.txOut ++ (List.replicate n (pendingFrame s)).flatten }

/-- The state in which a failed attempt from `s` leaves the next one to be made. -/
def retryState (s : State) : State := { timedOutState (emittedState s) with stArb := .hold }

theorem retryState_ready (h : ReadyToAttempt s) : ReadyToAttempt { retryState s with schedule := sch } :=
  ⟨h.linkOpen, rfl, h.needsAck, h.unacked, h.sendAllowed, h.txReady, rfl⟩

theorem attempts_succ_toNat (h : s.attempts.toNat < s.cfgRetry.toNat) :
    (s.attempts + 1).toNat = s.attempts.toNat + 1 := by
  have := s.cfgRetry.isLt
  exact BitVec.toNat_add_of_lt (show s.attempts.toNat + 1 < 2 ^ 8 by omega)

/-- The last attempt of the budget closes the link. -/
theorem failedAttempt_last (hopen : s.linkOpen = true) (hspent : s.attempts.toNat + 1 = s.cfgRetry.toNat) :
    failedAttempt { timedOutState (emittedState s) with schedule := sch } =
      { exhaustedState 1 s with schedule := sch } := by
  have hattempts := attempts_succ_toNat (s := s) (by omega)
  have hbudget : s.cfgRetry.toNat ≤ (s.attempts + 1).toNat := by omega
  refine (failedAttempt_of_spent (s := { timedOutState (emittedState s) with schedule := sch }) hopen hbudget).trans ?_
  simp only [closedState, timedOutState, emittedState, exhaustedState, BitVec.or_assoc, List.replicate_one,
    List.flatten_singleton]
  rfl

/-- An attempt before the last leads back to HOLD. -/
theorem failedAttempt_retry (hleft : s.attempts.toNat + 1 < s.cfgRetry.toNat) :
    failedAttempt { timedOutState (emittedState s) with schedule := sch } =
      { retryState s with schedule := sch } := by
  have hattempts := attempts_succ_toNat (s := s) (by omega)
  have hbudget : (s.attempts + 1).toNat < s.cfgRetry.toNat := by omega
  exact failedAttempt_of_budget hbudget

/-- The copies sent from the retry on follow the one already sent, and set no other interrupt bit. -/
theorem exhaustedState_retryState (n : Nat) (s : State) :
    exhaustedState n (retryState s) = exhaustedState (n + 1) s := by
  have hframe : pendingFrame (retryState s) = pendingFrame s := rfl
  simp only [exhaustedState, hframe, List.replicate_succ, List.flatten_cons, ← List.append_assoc]
  simp only [closedState, retryState, timedOutState, emittedState, BitVec.or_assoc]
  rfl

theorem flatten_replicate_succ_append (n : Nat) (events sch : List Event) :
    (List.replicate (n + 1) events).flatten ++ sch = events ++ ((List.replicate n events).flatten ++ sch) := by
  rw [List.replicate_succ, List.flatten_cons, List.append_assoc]

/-- As many attempts as the budget has left, each run to its timeout, close the link. -/
theorem run_attempts (k : Nat) (h : ReadyToAttempt s) (hleft : s.attempts.toNat + (k + 1) = s.cfgRetry.toNat)
    (hsched : s.schedule =
      (List.replicate (k + 1) (attemptEvents (pendingFrame s).length s.cfgTimeout.toNat)).flatten ++ sch) :
    Host.Core.run Sys2Proof.core ((k + 1) * ((pendingFrame s).length + s.cfgTimeout.toNat + 3)) s =
      .next { exhaustedState (k + 1) s with schedule := sch } := by
  induction k generalizing s with
  | zero =>
    have hattempt := run_attemptEvents h (hsched.trans (flatten_replicate_succ_append _ _ _))
    rw [failedAttempt_last h.linkOpen hleft] at hattempt
    rw [Nat.zero_add, Nat.one_mul]
    exact hattempt
  | succ k ih =>
    have hattempt := run_attemptEvents h (hsched.trans (flatten_replicate_succ_append _ _ _))
    rw [failedAttempt_retry (by omega)] at hattempt
    have hcounted : (s.attempts + 1).toNat + (k + 1) = s.cfgRetry.toNat := by
      rw [attempts_succ_toNat (by omega)]
      omega
    rw [Nat.succ_mul (k + 1), Nat.add_comm, ← exhaustedState_retryState]
    exact (run_add_of_run hattempt _).trans (ih (retryState_ready h) hcounted rfl)

end Attempts

/-- Settles O42: from ATTEMPTS = 0 the budget has CFG_RETRY attempts left. -/
theorem retryBudgetExhaustionClosesLink : Obligations.RetryBudgetExhaustionClosesLink := by
  intro s sch hopen hhold hattempts hneeds hunacked hallowed hready hidle hbudget hsched
  obtain ⟨k, hk⟩ := Nat.exists_eq_add_of_le' hbudget
  have hleft : s.attempts.toNat + (k + 1) = s.cfgRetry.toNat := by
    rw [hattempts, hk]
    exact Nat.zero_add _
  rw [hk] at hsched ⊢
  exact ⟨_, run_attempts k ⟨hopen, hhold, hneeds, hunacked, hallowed, hready, hidle⟩ hleft hsched,
    rfl, rfl, rfl, rfl, rfl, rfl, rfl⟩

end Sys2Proof.Machine

/-! The family of spec/46_host_commands.md: each command's word, its checks in the rule's order, its effect and what it
leaves unchanged, the host's writes to the other registers, and the step that runs a decoded instruction. -/

namespace Sys2Proof.Machine

section CommandAnswers

variable {s t : State} {check e : CmdErr}

/-! ## The end of a command (R311) -/

theorem runCommand_accepted (hc : check = .ok) (t s : State) : runCommand check t s = { t with cmdErr := .ok } := by
  rw [hc, runCommand, finishCommand_ok]

theorem runCommand_refused (hc : check = e) (he : e ≠ .ok) (t s : State) : runCommand check t s = refusedState e s := by
  rcases runCommand_cases check t s with ⟨hok, -⟩ | ⟨-, heq⟩
  · exact absurd (hc.symm.trans hok) he
  · rw [heq, hc]
    rfl

/-- How R311 lets a CMD write end: accepted with CMD_ERR as it was, or refused with the code and CMD_ERR alone. -/
def CommandEnds (s t : State) : Prop :=
  (t.cmdErr = .ok ∧ t.irqStatus.getLsbD 7 = s.irqStatus.getLsbD 7) ∨ (t.cmdErr ≠ .ok ∧ t = refusedState t.cmdErr s)

theorem commandEnds_refusedState (he : e ≠ .ok) (s : State) : CommandEnds s (refusedState e s) :=
  .inr ⟨he, rfl⟩

theorem commandEnds_accepted (hirq : t.irqStatus.getLsbD 7 = s.irqStatus.getLsbD 7) :
    CommandEnds s { t with cmdErr := .ok } :=
  .inl ⟨rfl, hirq⟩

theorem runCommand_commandEnds (hirq : t.irqStatus = s.irqStatus) : CommandEnds s (runCommand check t s) := by
  by_cases hc : check = .ok
  · rw [runCommand_accepted hc]
    exact commandEnds_accepted (congrArg (BitVec.getLsbD · 7) hirq)
  · rw [runCommand_refused rfl hc]
    exact commandEnds_refusedState hc s

/-- A close by the host does not touch CMD_ERR: its one bit is EOF (45_retransmission.md R285). -/
theorem closeLinkWith_host_cmdErr_bit (s : State) :
    (closeLinkWith .host s).irqStatus.getLsbD 7 = s.irqStatus.getLsbD 7 := by
  cases hopen : s.linkOpen
  case false => rw [closeLinkWith_closed hopen]
  case true =>
    rw [closeLinkWith_eq_closedState hopen]
    simp [closedState, closeMask]

theorem openSession_irqStatus (s : State) : (openSession s).irqStatus = s.irqStatus := by
  rw [openSession_eq]

/-- An instruction that a command word encodes is one of the nine host commands. -/
theorem exec_commandEnds {i : Instr} {w : Word} (hi : encode i = .cmd w) (he : exec i s = .next t) : CommandEnds s t := by
  cases i with
  | rxLr | rxLd | rxLt | rxLa => cases hi
  | nop | clrCounters => cases he; exact commandEnds_accepted rfl
  | closeLink => cases he; exact commandEnds_accepted (closeLinkWith_host_cmdErr_bit s)
  | openLink => cases he; exact runCommand_commandEnds (openSession_irqStatus s)
  | sendLr | sendLd | sendLt | sendLa | rxRelease => cases he; exact runCommand_commandEnds rfl

/-! ## Command words (30_encoding.md R120, R124) -/

theorem plainWord_eq_ofNat (op : Octet) : plainWord op = BitVec.ofNat 32 op.toNat := by
  rw [← plainWord_toNat, BitVec.ofNat_toNat, BitVec.setWidth_eq]

theorem commandWord_of_plain {c : Octet × Instr} (hc : c ∈ plainCommands) (s : State) :
    CommandWord c.1.toNat c.2 s := by
  refine ⟨fun w hop hres => ?_, ?_⟩
  · exact cmdWrite_of_error ((decodeCmd_plain hc hop).trans (decodePlain_of_reserved hres c.2)) s
  · rw [← plainWord_eq_ofNat]
    exact cmdWrite_of_ok (decodeCmd_plainWord hc) s

theorem aField_eq {w : Word} {a : Octet} (h : w.toNat / 2 ^ 8 % 256 = a.toNat) : aField w = a :=
  BitVec.eq_of_toNat_eq (by rw [aField, BitVec.extractLsb'_toNat, Nat.shiftRight_eq_div_pow]; exact h)

theorem bField_eq {w : Word} {b : Octet} (h : w.toNat / 2 ^ 16 % 256 = b.toNat) : bField w = b :=
  BitVec.eq_of_toNat_eq (by rw [bField, BitVec.extractLsb'_toNat, Nat.shiftRight_eq_div_pow]; exact h)

theorem dField_eq {w : Word} {d : Bool} (h : w.toNat / 2 ^ 24 % 2 = d.toNat) : dField w = d := by
  rw [dField, BitVec.getLsbD, Nat.testBit_eq_decide_div_mod_eq, h]
  cases d <;> rfl

theorem cmdWrite_sendLa {w : Word} (hop : w.toNat % 256 = 0x05) (hres : w.toNat / 2 ^ 25 = 0) (s : State) :
    cmdWrite w s = exec (.sendLa (aField w) (bField w) (dField w)) s :=
  cmdWrite_of_ok ((decodeCmd_sendLa hop).trans (decodeSendLa_of_no_reserved hres)) s

theorem cmdWrite_sendLa_reserved {w : Word} (hop : w.toNat % 256 = 0x05) (hres : w.toNat / 2 ^ 25 ≠ 0) (s : State) :
    cmdWrite w s = .next (refusedState .reservedBits s) :=
  cmdWrite_of_error ((decodeCmd_sendLa hop).trans (decodeSendLa_of_reserved hres)) s

/-! ## The checks of the SEND commands, in their order (R313 to R316) -/

/-- The checks every SEND command makes; the commands differ in the lengths that fit. -/
def sendCheck (fits : Bool) (s : State) : CmdErr :=
  firstError [(s.linkOpen, .linkClosed), (fits, .badLength), (!txqFull s, .queueFull)]

theorem checkSendWhole_eq (s : State) : checkSendWhole s = sendCheck (lengthIn s.params.maxpkt s) s := rfl

theorem checkSendLt_eq (s : State) : checkSendLt s = sendCheck (lengthIn s.cfgMaxinfo.toNat s) s := rfl

theorem checkSendLa_eq (d : Bool) (s : State) :
    checkSendLa d s = sendCheck (!d || decide (s.txLen.toNat ≤ s.params.maxpkt - 7)) s := rfl

theorem sendCheck_closed (hclosed : s.linkOpen = false) (fits : Bool) : sendCheck fits s = .linkClosed := by
  simp [sendCheck, firstError, hclosed]

theorem sendCheck_misfit {fits : Bool} (hopen : s.linkOpen = true) (hfits : fits = false) :
    sendCheck fits s = .badLength := by
  simp [sendCheck, firstError, hopen, hfits]

theorem sendCheck_full {fits : Bool} (hopen : s.linkOpen = true) (hfits : fits = true)
    (hfull : s.txq.length = s.params.txqDepth) : sendCheck fits s = .queueFull := by
  simp [sendCheck, firstError, txqFull, hopen, hfits, hfull]

theorem sendCheck_pass {fits : Bool} (hopen : s.linkOpen = true) (hfits : fits = true)
    (hroom : s.txq.length ≠ s.params.txqDepth) : sendCheck fits s = .ok :=
  (firstError_three (by decide) (by decide) (by decide)).2 ⟨hopen, hfits, (not_txqFull_iff s).2 hroom⟩

theorem lengthIn_eq_false {n : Nat} (h : s.txLen.toNat = 0 ∨ n < s.txLen.toNat) : lengthIn n s = false := by
  rw [Bool.eq_false_iff, ne_eq, lengthIn_iff]
  omega

/-- What a SEND command answers that needs 1 to `n` octets staged and whose effect is `t`, check by check. -/
theorem exec_of_lengthIn {i : Instr} {n : Nat}
    (hexec : exec i s = .next (runCommand (sendCheck (lengthIn n s) s) t s)) :
    (s.linkOpen = false → exec i s = .next (refusedState .linkClosed s)) ∧
    (s.linkOpen = true → (s.txLen.toNat = 0 ∨ n < s.txLen.toNat) → exec i s = .next (refusedState .badLength s)) ∧
    (s.linkOpen = true → 1 ≤ s.txLen.toNat → s.txLen.toNat ≤ n → s.txq.length = s.params.txqDepth →
      exec i s = .next (refusedState .queueFull s)) ∧
    (s.linkOpen = true → 1 ≤ s.txLen.toNat → s.txLen.toNat ≤ n → s.txq.length ≠ s.params.txqDepth →
      exec i s = .next { t with cmdErr := .ok }) := by
  rw [hexec]
  refine ⟨fun hclosed => ?_, fun hopen hlen => ?_, fun hopen hmin hmax hfull => ?_, fun hopen hmin hmax hroom => ?_⟩
  · rw [runCommand_refused (sendCheck_closed hclosed _) (by decide)]
  · rw [runCommand_refused (sendCheck_misfit hopen (lengthIn_eq_false hlen)) (by decide)]
  · rw [runCommand_refused (sendCheck_full hopen ((lengthIn_iff n s).2 ⟨hmin, hmax⟩) hfull) (by decide)]
  · rw [runCommand_accepted (sendCheck_pass hopen ((lengthIn_iff n s).2 ⟨hmin, hmax⟩) hroom)]

theorem exec_sendLr (s : State) :
    exec .sendLr s = .next (runCommand (sendCheck (lengthIn s.params.maxpkt s) s)
      (enqueueTx { kind := .lr, seq := 0, payload := txData s } (seqResetTx s)) s) := by
  rw [← checkSendWhole_eq]
  rfl

theorem exec_sendLd (s : State) :
    exec .sendLd s = .next (runCommand (sendCheck (lengthIn s.params.maxpkt s) s)
      (enqueueTx { kind := .ld, seq := 0, payload := txData s } s) s) := by
  rw [← checkSendWhole_eq]
  rfl

theorem seqAssign_eq (s : State) : seqAssign s = { s with txSeq := BitVec.ofNat 8 (s.txSeq.toNat + 1) } := by
  have hnext : seqAfter s.txSeq 1 = s.txSeq + 1 := by rw [seqAfter_succ, seqAfter_zero]
  rw [seqAssign, seqNext, ← hnext, seqAfter]

theorem exec_sendLt (s : State) :
    exec .sendLt s = .next (runCommand (sendCheck (lengthIn s.cfgMaxinfo.toNat s) s)
      (queueLt (txData s) { s with txSeq := BitVec.ofNat 8 (s.txSeq.toNat + 1) }) s) := by
  rw [← seqAssign_eq, ← checkSendLt_eq]
  rfl

theorem exec_sendLa (a b : Octet) (d : Bool) (s : State) :
    exec (.sendLa a b d) s =
      .next (runCommand (sendCheck (!d || decide (s.txLen.toNat ≤ s.params.maxpkt - 7)) s)
        (enqueueTx { kind := .la, seq := 0, payload := buildLa s.params.lenMode a b (laData d s) } s) s) := by
  rw [← checkSendLa_eq]
  rfl

/-! ## CLOSE, OPEN and RX_RELEASE (R317 to R319) -/

theorem checkOpen_of_open (hopen : s.linkOpen = true) : checkOpen s = .alreadyOpen := by
  simp [checkOpen, firstError, hopen]

theorem checkRelease_of_empty (hempty : s.rxq = []) : checkRelease s = .rxqEmpty := by
  simp [checkRelease, firstError, rxqNonempty, hempty]

theorem exec_closeLink (s : State) : exec .closeLink s = .next { closeLinkWith .host s with cmdErr := .ok } := rfl

theorem exec_openLink (s : State) : exec .openLink s = .next (runCommand (checkOpen s) (openSession s) s) := rfl

theorem exec_rxRelease (s : State) :
    exec .rxRelease s = .next (runCommand (checkRelease s) { s with rxq := s.rxq.tail } s) := rfl

/-! ## Writes by register (R322, 20_memory.md R70) -/

variable {addr : Offset}

theorem memWrite_cmd (h : addr.toNat / 4 = 1) (v : Word) (s : State) : memWrite addr v s = cmdWrite v s := by
  have hoff : wordOffset addr = 0x004 := by rw [wordOffset_eq, h]
  rw [memWrite, if_pos hoff]

/-- A word of the registers other than CMD's, by its number. -/
theorem memWrite_register (hp : s.params.wf = true) {k : Nat} (hk : 1 < k ∧ k < 0x400) (h : addr.toNat / 4 = k)
    (v : Word) : memWrite addr v s = .next (writeRegister (k * 4) v s) := by
  rw [memWrite_outside_txWindow hp (by omega) (by omega), h]

/-- CFG_RETRY takes 1 for 0 (10_state.md R25). -/
theorem legalRetry_toNat (v : Word) :
    (legalRetry (v.extractLsb' 0 8)).toNat = if v.toNat % 256 = 0 then 1 else v.toNat % 256 := by
  have hlow : (v.extractLsb' 0 8).toNat = v.toNat % 256 := opField_toNat v
  rw [← hlow, legalRetry, apply_ite BitVec.toNat]
  exact if_congr BitVec.toNat_inj.symm rfl rfl

/-- CFG_MAXINFO is clamped to 1..MAXPKT - 5, which its 16 bits hold (10_state.md R26). -/
theorem legalMaxinfo_toNat {p : Params} (hp : p.wf = true) (v : Word) :
    (legalMaxinfo p (v.extractLsb' 0 16)).toNat = min (max (v.toNat % 65536) 1) (p.maxpkt - 5) := by
  have := maxpkt_range hp
  have hlow : (v.extractLsb' 0 16).toNat = v.toNat % 65536 := by simp [BitVec.extractLsb'_toNat]
  rw [legalMaxinfo, hlow, BitVec.toNat_ofNat, Nat.mod_eq_of_lt (by omega)]

end CommandAnswers

/-- Settles O24: neither command has a check to make. -/
theorem nopAndClrCountersResults : Obligations.NopAndClrCountersResults := by
  intro s
  exact ⟨commandWord_of_plain (c := (0x00, .nop)) (by decide) s, rfl,
    commandWord_of_plain (c := (0x0B, .clrCounters)) (by decide) s, rfl⟩

/-- Settles O25: 1 to MAXPKT octets fit. -/
theorem sendLrResult : Obligations.SendLrResult := by
  intro s
  exact ⟨commandWord_of_plain (c := (0x01, .sendLr)) (by decide) s, exec_of_lengthIn (exec_sendLr s)⟩

/-- Settles O26: 1 to MAXPKT octets fit. -/
theorem sendLdResult : Obligations.SendLdResult := by
  intro s
  exact ⟨commandWord_of_plain (c := (0x02, .sendLd)) (by decide) s, exec_of_lengthIn (exec_sendLd s)⟩

/-- Settles O27: 1 to CFG_MAXINFO octets fit, and the sequence is assigned before the LT is built. -/
theorem sendLtResult : Obligations.SendLtResult := by
  intro s
  exact ⟨commandWord_of_plain (c := (0x04, .sendLt)) (by decide) s, exec_of_lengthIn (exec_sendLt s)⟩

/-- Settles O28: without data any length fits, with data up to MAXPKT - 7. -/
theorem sendLaResult : Obligations.SendLaResult := by
  intro s a b d
  have hfits (h : d = false ∨ s.txLen.toNat ≤ s.params.maxpkt - 7) :
      (!d || decide (s.txLen.toNat ≤ s.params.maxpkt - 7)) = true := by
    simpa using h
  refine ⟨fun w hop => ⟨fun hres => cmdWrite_sendLa_reserved hop hres s, fun hres ha hb hd => ?_⟩, ?_⟩
  · rw [cmdWrite_sendLa hop hres, aField_eq ha, bField_eq hb, dField_eq hd]
  rw [exec_sendLa]
  refine ⟨fun hclosed => ?_, fun hopen hdata hlen => ?_, fun hopen hlen hfull => ?_, fun hopen hlen hroom => ?_⟩
  · rw [runCommand_refused (sendCheck_closed hclosed _) (by decide)]
  · have hmisfit : (!d || decide (s.txLen.toNat ≤ s.params.maxpkt - 7)) = false := by
      simpa [hdata] using hlen
    rw [runCommand_refused (sendCheck_misfit hopen hmisfit) (by decide)]
  · rw [runCommand_refused (sendCheck_full hopen (hfits hlen) hfull) (by decide)]
  · rw [runCommand_accepted (sendCheck_pass hopen (hfits hlen) hroom)]
    rfl

/-- Settles O29: the command is `close(HOST)`, which does nothing to a closed link. -/
theorem closeCommandResult : Obligations.CloseCommandResult := by
  intro s
  refine ⟨commandWord_of_plain (c := (0x08, .closeLink)) (by decide) s, fun hopen => ?_, fun hclosed => ?_⟩
  · rw [exec_closeLink, closeLinkWith_eq_closedState hopen, closeMask]
  · rw [exec_closeLink, closeLinkWith_closed hclosed]

/-- Settles O30: the one check is that the link is closed. -/
theorem openCommandResult : Obligations.OpenCommandResult := by
  intro s
  refine ⟨commandWord_of_plain (c := (0x09, .openLink)) (by decide) s, fun hopen => ?_, fun hclosed => ?_⟩
  · rw [exec_openLink, runCommand_refused (checkOpen_of_open hopen) (by decide)]
  · rw [exec_openLink, runCommand_accepted ((checkOpen_ok s).2 hclosed), openSession_eq]

/-- Settles O31: the one check is that RXQ holds a packet. -/
theorem rxReleaseResult : Obligations.RxReleaseResult := by
  intro s
  refine ⟨commandWord_of_plain (c := (0x0A, .rxRelease)) (by decide) s, fun hempty => ?_, fun e rest hrxq => ?_⟩
  · rw [exec_rxRelease, runCommand_refused (checkRelease_of_empty hempty) (by decide)]
  · have hnonempty : s.rxq ≠ [] := by simp [hrxq]
    rw [exec_rxRelease, runCommand_accepted ((checkRelease_ok s).2 hnonempty), hrxq, List.tail_cons]

/-- Settles O32: a word that is no command is refused by its code, and a word that decodes is a host command, never a
received packet. -/
theorem refusedCommandChangesNothingElse : Obligations.RefusedCommandChangesNothingElse := by
  intro w s
  cases hd : decodeCmd w with
  | error e =>
    have hcode : rejectCode e ≠ .ok := by cases e <;> decide
    exact ⟨_, cmdWrite_of_error hd s, commandEnds_refusedState hcode s⟩
  | ok i =>
    obtain ⟨t, ht⟩ := exec_next i s
    exact ⟨t, (cmdWrite_of_ok hd s).trans ht, exec_commandEnds (encode_eq_of_decodeCmd hd) ht⟩

/-- Settles O45: register by register; the two repairs are read as numbers. -/
theorem registerWriteResults : Obligations.RegisterWriteResults := by
  intro s v addr hp
  have hwrite (k : Nat) (hk : 1 < k ∧ k < 0x400) (h : addr.toNat / 4 = k) :
      memWrite addr v s = .next (writeRegister (k * 4) v s) := memWrite_register hp hk h v
  exact ⟨hwrite 3 (by decide), hwrite 4 (by decide), hwrite 5 (by decide),
    fun h => ⟨_, hwrite 6 (by decide) h, legalRetry_toNat v⟩,
    fun h => ⟨_, hwrite 7 (by decide) h, legalMaxinfo_toNat hp v⟩, hwrite 8 (by decide)⟩

/-- Settles O49: CMD's word is reached from each of its offsets, and FCS2 runs the payload of a good frame. -/
theorem stepRunsDecodedInstruction : Obligations.StepRunsDecodedInstruction := by
  refine ⟨fun s addr w i sch hsched haddr hd => ?_, fun s o i rest sch hsched hopen hin hfcs2 hcrc hd => ?_⟩
  · calc step s = memWrite addr w { s with schedule := sch } := step_of_schedule_cons hsched
      _ = cmdWrite w { s with schedule := sch } := memWrite_cmd haddr w _
      _ = exec i { s with schedule := sch } := cmdWrite_of_ok hd _
  · obtain ⟨t, ht⟩ := exec_next i { s with schedule := sch, rxIn := rest }
    refine ⟨t, ht, ?_⟩
    calc step s = rxdStep { s with schedule := sch } := step_of_schedule_cons hsched
      _ = rxdOctet o { s with schedule := sch, rxIn := rest } := rxdStep_of_input (x := .octet o) hopen hin
      _ = thenNext huntingState (frameGood s.rxAcc { s with schedule := sch, rxIn := rest }) :=
        rxdOctet_fcs2_good hfcs2 hcrc
      _ = .next (huntingState t) := by rw [frameGood_of_ok hd, ht]; rfl

end Sys2Proof.Machine

/-! The family of spec/70_reset_and_hazards.md: the reset event. -/

namespace Sys2Proof.Machine

/-- Settles O51: the event's turn is `applyReset`, which reads only the parameters and what stays of the state that the
step has taken the event from. -/
theorem rstEventResetsEveryRegister : Obligations.RstEventResetsEveryRegister := by
  intro s sch hsched
  calc step s = runEvent .rst { s with schedule := sch } := step_of_schedule_cons hsched
    _ = .next (applyReset { s with schedule := sch }) := rfl
    _ = _ := by simp only [applyReset]

end Sys2Proof.Machine
